-- ==== Sys2Proof/Syntax.lean ====
section
/-! DEFINITION. The commands: one constructor for each row of spec/opcode_table.json (spec/30_encoding.md R81).
No command carries an operand in its word: every operand is implicit (R80, R84). -/

namespace Sys2Proof

/-- R81: the nine commands of the BF-EKS core. -/
inductive Instr where
  | init
  | encrypt
  | expKey
  | expSalt
  | sExpKey
  | setup
  | digest
  | bcrypt
  | zeroize
deriving DecidableEq, Repr

end Sys2Proof
end

