-- ==== Sys2Proof/Word.lean ====
section
/-! DEFINITION. The word and byte types of spec/00_scope.md R7, and the shapes of the storage the spec names:
a cipher block (R13), the P-array (R21), the S-boxes (R22), the key, salt and digest register files
(R28, R29, R31), the sequencer counters (R34) and the engine's tables and datapath registers (R20, R32, R33). -/

namespace Sys2Proof

/-- R7: a word is an unsigned 32-bit value. -/
abbrev Word := BitVec 32

/-- R7: a byte is an unsigned 8-bit value. -/
abbrev Byte := BitVec 8

/-- R50: a byte offset in the 13-bit host register space. -/
abbrev Offset := BitVec 13

/-- R13: a 64-bit block held as two words, `l` (left, first) and `r` (right, second). -/
structure Block where
  l : Word
  r : Word
deriving DecidableEq, Repr, Inhabited

/-- R21: the P-array, 18 words. -/
abbrev PArray := Vector Word 18

/-- R22: the four S-boxes of 256 words. -/
abbrev SBoxes := Vector (Vector Word 256) 4

/-- R28: the 72-byte key buffer as eighteen words. -/
abbrev KeyRegs := Vector Word 18

/-- R29: the 16-byte salt as four words. -/
abbrev SaltRegs := Vector Word 4

/-- R31: the six digest words. -/
abbrev DigestRegs := Vector Word 6

/-- R34: the sequencer counters a realisation needs.
The spec calls them not architectural: no rule gives one a value and nothing can read one (notes/assumptions/18.md). -/
structure Counters where
  setupIter : BitVec 32
  encIndex : Fin 521
  roundIndex : Fin 16
  digestIter : Fin 64
  digestBlock : Fin 3
deriving DecidableEq, Repr, Inhabited

/-- R20: the tables and the internal datapath registers that the key schedule drives:
`p` and `s` (R21, R22), the running block `rb` = RB_L, RB_R (R32), the stream positions `kpos` and
`spos` (R33).
`encs` is no register: it is the model's own count of `BF_ENC` calls, the quantity of R207. -/
structure Engine where
  encs : Nat
  p : PArray
  s : SBoxes
  rb : Block
  kpos : Fin 72
  spos : Fin 16
deriving DecidableEq, Repr, Inhabited

end Sys2Proof
end

