-- ==== Sys2Proof/WellFormed.lean ====
section
/-! DEFINITION. When a command word is well formed (spec/30_encoding.md R80, R82, R83). -/

namespace Sys2Proof

/-- Why a command word is no command; the machine rejects both with `E_ILLEGAL` (R172). -/
inductive WordFault where
  /-- R82: one of bits 31:4 is set. -/
  | reservedBits
  /-- R83: bits 31:4 are zero and the opcode is 0x0 or 0xA to 0xF. -/
  | reservedOpcode
deriving DecidableEq, Repr

/-- R82, R83: the first check a command word fails, if any. -/
def wordFault (v : Word) : Option WordFault :=
  if v.extractLsb' 4 28 ≠ 0 then some .reservedBits
  else if v.extractLsb' 0 4 = 0 ∨ 9 < (v.extractLsb' 0 4).toNat then some .reservedOpcode
  else none

/-- R80: a word that encodes a command. -/
def CommandWord.wf (v : Word) : Bool := (wordFault v).isNone

/-- An instruction as syntax carries no operand, so every one is well formed (R80: "Every operand is implicit").
Written out constructor by constructor, so that one with an operand could not slip past. -/
def Instr.wf : Instr → Bool
  | .init | .encrypt | .expKey | .expSalt | .sExpKey | .setup | .digest | .bcrypt | .zeroize => true

end Sys2Proof
end

