-- ==== Sys2Proof/Decode.lean ====
section
/-! DEFINITION. Decoding a command word, total on every 32-bit value and rejecting by name, and the encoder
(spec/30_encoding.md R80 to R83, R87; spec/opcode_table.json).
The core has no byte access (R53), so the unit the decoder reads is the 32-bit word written to CTRL. -/

namespace Sys2Proof

/-- R80: field OP, bits 3:0. -/
def opField (v : Word) : BitVec 4 := v.extractLsb' 0 4

/-- R80: field RSV, bits 31:4. -/
def rsvField (v : Word) : BitVec 28 := v.extractLsb' 4 28

/-- R81: the command an opcode names. -/
def decodeOp (op : BitVec 4) : Option Instr :=
  match op.toNat with
  | 0x1 => some .init
  | 0x2 => some .encrypt
  | 0x3 => some .expKey
  | 0x4 => some .expSalt
  | 0x5 => some .sExpKey
  | 0x6 => some .setup
  | 0x7 => some .digest
  | 0x8 => some .bcrypt
  | 0x9 => some .zeroize
  | _ => none

/-- R80, R82, R83: the command a word encodes, or why it encodes none. -/
def decode (v : Word) : Except WordFault Instr :=
  if rsvField v ≠ 0 then .error .reservedBits
  else match decodeOp (opField v) with
    | some i => .ok i
    | none => .error .reservedOpcode

/-- The decoder on a row of the opcode table: `w` is the number made of the row's `nbits` bits, the bits above them zero.
A command is one 32-bit word (R87), so more bits than 32 are no command. -/
def decodeTableWord (nbits w : Nat) : Option Instr :=
  if nbits ≤ 32 then (decode (BitVec.ofNat 32 (w % 2 ^ nbits))).toOption else none

/-- R81: the opcode of each command. -/
def opcode : Instr → BitVec 4
  | .init => 0x1
  | .encrypt => 0x2
  | .expKey => 0x3
  | .expSalt => 0x4
  | .sExpKey => 0x5
  | .setup => 0x6
  | .digest => 0x7
  | .bcrypt => 0x8
  | .zeroize => 0x9

/-- R80: the command word of an instruction: OP in bits 3:0, RSV zero. -/
def encode (i : Instr) : Word := (opcode i).setWidth 32

end Sys2Proof
end

