-- ==== Sys2Proof/Config.lean ====
section
/-! DEFINITION. What the spec leaves open: the free values, as constants with no body (spec/93_implementation_defined.md
U1, U2, U3), and the fixed numbers of spec/00_scope.md R6.
The other OPEN parameters of R6 (BASE, LAT, BUS_ORDER, N_INST, CONST_TIME_SBOX) are no constants here:
notes/assumptions/2.md and 10.md say where each one went. -/

namespace Sys2Proof.Config

/-- U1 (R55): the word the `n`-th unspecified host read returns. Nothing constrains it. -/
opaque freeRead : Nat → Word

/-- U2, U3 (R32, R33, R200, R201): the tables after the reset input is asserted, and the internal datapath registers
then and between commands. Nothing constrains them. -/
opaque freeEngine : Nat → Engine

/-- U3 (R34): the sequencer counters between commands. Nothing constrains them. -/
opaque freeCounters : Nat → Counters

/-- R6 `KEYMAX`: key buffer bytes. -/
abbrev keyMax : Nat := 72

/-- R6 `SALTLEN`: salt bytes. -/
abbrev saltLen : Nat := 16

/-- R6: the smallest legal cost. -/
abbrev costMin : Nat := 4

/-- R6 `ROUNDS`. -/
abbrev rounds : Nat := 16

/-- R6 `DIGEST_ITERS`: encryptions of each digest block. -/
abbrev digestIters : Nat := 64

end Sys2Proof.Config
end

