-- ==== Sys2Proof/Machine/State.lean ====
section
/-! DEFINITION. The state of one BF-EKS core (spec/10_state.md R20 to R36), as plain data, with its value at reset
(spec/70_reset_and_hazards.md R200), and the events that reach it from outside (spec/30_encoding.md R88). -/

namespace Sys2Proof.Machine

/-- R171: the error codes STATUS.ERR takes. `none` is E_NONE. -/
inductive Err where
  | none
  | illegal
  | cost
  | keylen
  | noTables
  | busy
deriving DecidableEq, Repr

/-- R51: the registers of the host register space, and the reserved offsets of R52. -/
inductive Reg where
  | ctrl
  | status
  | cost
  | keylen
  | salt (j : Fin 4)
  | key (j : Fin 18)
  | blkL
  | blkR
  | digest (j : Fin 6)
  | p (i : Fin 18)
  | s (k : Fin 4) (i : Fin 256)
  | reserved
deriving DecidableEq, Repr

/-- What happens next at the core.
The list of these in `State.events` is the order the spec leaves open: BUS_ORDER (R64), when the running command
completes (R208, LAT), and which of a completion and an access in one cycle goes first (R183). -/
inductive Event where
  /-- R88 `RD`: a host bus read of the register at a byte offset. -/
  | read (off : Offset)
  /-- R88 `WR`, `CMD`: a host bus write. -/
  | write (off : Offset) (data : Word)
  /-- R179: the engine reaches the completion of the command it runs, if it runs one. -/
  | engine
  /-- R200: the reset input is asserted. -/
  | assertReset
  /-- R200: the reset input is released. -/
  | releaseReset
deriving DecidableEq, Repr

/-- A rejection or a dropped write, as the modelling note of spec/60_exceptions.md asks a model to record it. -/
inductive Report where
  /-- R170: a CTRL write of `word` was rejected with `code`. -/
  | rejected (code : Err) (word : Word)
  /-- R176, R177: a write of `data` to `reg` while BUSY was dropped. -/
  | dropped (reg : Reg) (data : Word)
deriving DecidableEq, Repr

/-- The value one host read returned (R210: what a run's RD operations return is its observation). -/
structure Reply where
  off : Offset
  data : Word
deriving DecidableEq, Repr

/-- R20: the state of one core instance.
STATUS is held as its fields (R24: every other bit reads 0); its word is `statusWord`.
CTRL holds no state of its own (R25), and there is no program counter (R35) and no register file (R36).
The last four fields are the model's own (notes/assumptions/11.md): what drives the core from outside, and what was observed of it. -/
structure State where
  /-- R21, R22, R32, R33: P, S, RB_L, RB_R, KPOS, SPOS. -/
  eng : Engine
  /-- R34: the sequencer counters. -/
  counters : Counters
  /-- R23: TV, STATUS[2]. -/
  tv : Bool
  /-- R24: STATUS[0]. -/
  busy : Bool
  /-- R24: STATUS[1]. -/
  done : Bool
  /-- R24: STATUS[7:4]. -/
  err : Err
  /-- R24: STATUS[11:8]. -/
  lastOp : BitVec 4
  /-- R26: COST[4:0]; bits 31:5 hold nothing. -/
  cost : BitVec 5
  /-- R27: KEYLEN[6:0]; bits 31:7 hold nothing. -/
  keylen : BitVec 7
  /-- R28. -/
  key : KeyRegs
  /-- R29. -/
  salt : SaltRegs
  /-- R30: BLK_L and BLK_R. -/
  blk : Block
  /-- R31. -/
  digest : DigestRegs
  /-- R34: the accepted command in progress, as a command in place of its opcode (notes/assumptions/9.md). -/
  cur : Option Instr
  /-- R200, R202: the reset input is asserted. -/
  resetPin : Bool
  /-- What happens next at the core, first first. -/
  events : List Event
  /-- What the host reads so far returned, newest first. -/
  reads : List Reply
  /-- Every rejection and dropped write so far, newest first; nothing clears it. -/
  history : List Report
  /-- How many free values the run has used so far. -/
  draws : Nat
deriving DecidableEq, Repr

/-- The core never stops with a fault: "No behaviour of this core is `stuck`" (spec/93_implementation_defined.md).
A rejected command or a dropped write is a next state that STATUS and the history report (R170, R180). -/
inductive Fault where
deriving DecidableEq, Repr

/-- Reasons to give a command no meaning. -/
inductive Refusal where
  /-- Raised by an arm of `exec` whose command has no meaning yet; no arm does.
  Safe: the model stops where the hardware goes on. -/
  | notModelled (mnemonic : String)
deriving DecidableEq, Repr

/-- What one step has to do: run a command's meaning at a state, or nothing more than reach a state.
Machine/Fetch.lean computes it. -/
inductive Action where
  | run (i : Instr) (s : State)
  | reach (s : State)
deriving DecidableEq, Repr

/-- The tables and datapath registers in `State.reset`.
R200 leaves them unspecified; DESIGN CHOICE (notes/assumptions/1.md): zero. -/
def Engine.atReset : Engine where
  encs := 0
  p := Vector.replicate 18 0
  s := Vector.replicate 4 (Vector.replicate 256 0)
  rb := ⟨0, 0⟩
  kpos := 0
  spos := 0

/-- R200: the core right after reset, with the reset input released and nothing from outside waiting. -/
def State.reset : State where
  eng := Engine.atReset
  counters := ⟨0, 0, 0, 0, 0⟩
  tv := false
  busy := false
  done := false
  err := .none
  lastOp := 0
  cost := 0
  keylen := 0
  key := Vector.replicate 18 0
  salt := Vector.replicate 4 0
  blk := ⟨0, 0⟩
  digest := Vector.replicate 6 0
  cur := none
  resetPin := false
  events := []
  reads := []
  history := []
  draws := 0

end Sys2Proof.Machine
end

