-- ==== Sys2Proof/Machine/Flags.lean ====
section
/-! DEFINITION. STATUS (spec/10_state.md R24), the two level outputs (spec/60_exceptions.md R182) and the checks a command must pass
(R171 to R175). -/

namespace Sys2Proof.Machine

/-- R171: the number of an error code. -/
def errCode : Err → BitVec 4
  | .none => 0
  | .illegal => 1
  | .cost => 2
  | .keylen => 3
  | .noTables => 4
  | .busy => 5

/-- One flag at bit `n` of a word. -/
def flagBit (b : Bool) (n : Nat) : Word := if b then 1 <<< n else 0

/-- R24: the STATUS word. -/
def statusWord (s : State) : Word :=
  flagBit s.busy 0 ||| flagBit s.done 1 ||| flagBit s.tv 2 |||
    ((errCode s.err).setWidth 32 <<< 4) ||| (s.lastOp.setWidth 32 <<< 8)

/-- R182: the `busy` output. -/
def busyOutput (s : State) : Bool := s.busy

/-- R182: the `done` output. -/
def doneOutput (s : State) : Bool := s.done

/-- R173: the cost check. -/
def costCheck (s : State) : Err := if s.cost.toNat < Config.costMin then .cost else .none

/-- R174: the key-length check. -/
def keylenCheck (s : State) : Err :=
  if s.keylen.toNat = 0 ∨ Config.keyMax < s.keylen.toNat then .keylen else .none

/-- R175: the tables check. -/
def tablesCheck (s : State) : Err := if s.tv then .none else .noTables

/-- R171: "Only one code is ever reported": the first check that fails. -/
def firstErr (a b : Err) : Err := if a = .none then b else a

/-- R171: the checks of each command after its word has decoded, in the order of `CHECK(v)`. -/
def commandCheck (i : Instr) (s : State) : Err :=
  match i with
  | .init => .none
  | .encrypt => tablesCheck s
  | .expKey => firstErr (keylenCheck s) (tablesCheck s)
  | .expSalt => tablesCheck s
  | .sExpKey => firstErr (keylenCheck s) (tablesCheck s)
  | .setup => firstErr (costCheck s) (keylenCheck s)
  | .digest => tablesCheck s
  | .bcrypt => firstErr (costCheck s) (keylenCheck s)
  | .zeroize => .none

end Sys2Proof.Machine
end

