-- ==== Sys2Proof/Machine/Operands.lean ====
section
/-! DEFINITION. Operands: byte packing (spec/00_scope.md R9), the register map (spec/20_memory.md R51, R53), the key and salt bytes
(spec/10_state.md R28, R29) and the count registers (spec/30_encoding.md R86). -/

namespace Sys2Proof.Machine

/-- R9: `be32`, the first byte most significant. -/
def be32 (b0 b1 b2 b3 : Byte) : Word :=
  (b0.setWidth 32 <<< 24) ||| (b1.setWidth 32 <<< 16) ||| (b2.setWidth 32 <<< 8) ||| b3.setWidth 32

/-- R9: `byte(w, j)`, byte `j` of a word counted from the most significant. -/
def byteOf (w : Word) (j : Nat) : Byte := w.extractLsb' (24 - 8 * j) 8

/-- R28: key byte `kb(n)`, n in 0..71.
No command reads a byte at 72 or above: KEYLEN is at most 72 when a command that reads KEY runs (R174).
The zero beyond is a DESIGN CHOICE (notes/assumptions/15.md). -/
def keyByte (key : KeyRegs) (n : Nat) : Byte :=
  if h : n < 72 then byteOf (key[n / 4]'(by omega)) (n % 4) else 0

/-- R29: salt byte `sb(n)`, n in 0..15. -/
def saltByte (salt : SaltRegs) (n : Nat) : Byte :=
  if h : n < 16 then byteOf (salt[n / 4]'(by omega)) (n % 4) else 0

/-- R31, R155: digest output byte `n`, n in 0..23. -/
def digestByte (digest : DigestRegs) (n : Fin 24) : Byte :=
  byteOf (digest[n.val / 4]'(by omega)) (n.val % 4)

/-- R53: the word a byte offset reaches; offset bits 1:0 are ignored. -/
def wordIndex (off : Offset) : Fin 2048 := ⟨off.toNat / 4, by omega⟩

/-- R51, R52: the register at a word of the register space. -/
def regAtWord (w : Fin 2048) : Reg :=
  if w.val = 0 then .ctrl
  else if w.val = 1 then .status
  else if w.val = 2 then .cost
  else if w.val = 3 then .keylen
  else if h : 4 ≤ w.val ∧ w.val < 8 then .salt ⟨w.val - 4, by omega⟩
  else if h : 8 ≤ w.val ∧ w.val < 26 then .key ⟨w.val - 8, by omega⟩
  else if w.val = 32 then .blkL
  else if w.val = 33 then .blkR
  else if h : 36 ≤ w.val ∧ w.val < 42 then .digest ⟨w.val - 36, by omega⟩
  else if h : 64 ≤ w.val ∧ w.val < 82 then .p ⟨w.val - 64, by omega⟩
  else if h : 1024 ≤ w.val then
    .s ⟨(w.val - 1024) / 256, by omega⟩ ⟨(w.val - 1024) % 256, by omega⟩
  else .reserved

/-- R51, R53: the register a byte offset reaches. -/
def regAt (off : Offset) : Reg := regAtWord (wordIndex off)

/-- R51: the byte offset of a register, as R88's `off(reg)`; `0x068` stands for the reserved ones. -/
def offsetOf : Reg → Offset
  | .ctrl => 0x000
  | .status => 0x004
  | .cost => 0x008
  | .keylen => 0x00C
  | .salt j => BitVec.ofNat 13 (0x010 + 4 * j.val)
  | .key j => BitVec.ofNat 13 (0x020 + 4 * j.val)
  | .blkL => 0x080
  | .blkR => 0x084
  | .digest j => BitVec.ofNat 13 (0x090 + 4 * j.val)
  | .p i => BitVec.ofNat 13 (0x100 + 4 * i.val)
  | .s k i => BitVec.ofNat 13 (0x1000 + 1024 * k.val + 4 * i.val)
  | .reserved => 0x068

end Sys2Proof.Machine
end

