-- ==== Sys2Proof/Machine/Ops.lean ====
section
/-! DEFINITION. The named operations over the state: reporting an error, accepting and completing a command
(spec/60_exceptions.md R170, R176, R177, R179), host reads and writes (spec/20_memory.md R52 to R58) and the reset input
(spec/70_reset_and_hazards.md R200 to R202).
The core takes no trap (R180): what stands in the place of exception entry is `reject` and `dropWrite`, and in the place of the return
from one the next acceptance, which clears ERR (R181). -/

namespace Sys2Proof.Machine

/-- R170: rejection of the CTRL write of `word`. It changes ERR, DONE and LASTOP, and the history records it. -/
def reject (code : Err) (word : Word) (s : State) : State :=
  { s with err := code, done := true, lastOp := opField word, history := .rejected code word :: s.history }

/-- R170: acceptance of command `i`. -/
def accept (i : Instr) (s : State) : State :=
  { s with err := .none, done := false, busy := true, lastOp := opcode i, cur := some i }

/-- R176, R177: a write while BUSY is dropped with E_BUSY, and the history records it. -/
def dropWrite (r : Reg) (data : Word) (s : State) : State :=
  { s with err := .busy, history := .dropped r data :: s.history }

/-- R179: the part of completion that every command shares.
RB, KPOS, SPOS and the sequencer counters hold no specified value between commands (R32 to R34, U3), so they take a
free one (notes/assumptions/6.md). -/
def complete (s : State) : State :=
  let f := Config.freeEngine s.draws
  { s with
    busy := false
    done := true
    cur := none
    eng := { s.eng with rb := f.rb, kpos := f.kpos, spos := f.spos }
    counters := Config.freeCounters s.draws
    draws := s.draws + 1 }

/-- A command, from the write that issues it to its completion.
While the core is idle it is the CTRL write of R170: the checks, then rejection or acceptance.
While `i` is the command in progress it is the engine's completion of it, R179: `effect` is the command's completion
pseudocode, applied with the shared part as one update.
While another command is in progress it is a dropped CTRL write, R176; no step takes this arm
(DESIGN CHOICE, notes/assumptions/14.md). -/
def runCommand (i : Instr) (effect : State → State) (s : State) :
    Host.Outcome State Fault Refusal :=
  if s.busy then
    if s.cur = some i then .next (complete (effect s)) else .next (dropWrite .ctrl (encode i) s)
  else if commandCheck i s = .none then .next (accept i s)
  else .next (reject (commandCheck i s) (encode i) s)

/-- R55, U1: the unspecified value of a host read while BUSY (notes/assumptions/5.md). -/
def drawWord (s : State) : Word × State :=
  (Config.freeRead s.draws, { s with draws := s.draws + 1 })

/-- R54, R55: a register whose read while BUSY is unspecified. -/
def idleRead (v : Word) (s : State) : Word × State :=
  if s.busy then drawWord s else (v, s)

/-- R58: a table word read back; 0 while TV = 0. -/
def tableRead (v : Word) (s : State) : Word × State :=
  idleRead (if s.tv then v else 0) s

/-- R54, R55, R58, R202: the value a host read of a register returns, and the state after it. -/
def readReg (r : Reg) (s : State) : Word × State :=
  if s.resetPin then (0, s) else
  match r with
  | .ctrl => (0, s)
  | .status => (statusWord s, s)
  | .cost => (s.cost.setWidth 32, s)
  | .keylen => (s.keylen.setWidth 32, s)
  | .salt j => (s.salt[j], s)
  | .key j => (s.key[j], s)
  | .blkL => idleRead s.blk.l s
  | .blkR => idleRead s.blk.r s
  | .digest j => idleRead s.digest[j] s
  | .p i => tableRead s.eng.p[i] s
  | .s k i => tableRead s.eng.s[k][i] s
  | .reserved => (0, s)

/-- A host read as an event: the value goes out on the bus, and `reads` records it (R210). -/
def hostRead (off : Offset) (s : State) : State :=
  let (v, s') := readReg (regAt off) s
  { s' with reads := ⟨off, v⟩ :: s'.reads }

/-- R177: an input register, whose write while BUSY is dropped. -/
def inputWrite (r : Reg) (v : Word) (s written : State) : State :=
  if s.busy then dropWrite r v s else written

/-- R52, R56, R57, R177: a host write of a register other than CTRL, the reset input released. -/
def writeReg (r : Reg) (v : Word) (s : State) : State :=
  match r with
  | .cost => inputWrite r v s { s with cost := v.setWidth 5 }
  | .keylen => inputWrite r v s { s with keylen := v.setWidth 7 }
  | .salt j => inputWrite r v s { s with salt := s.salt.set j v }
  | .key j => inputWrite r v s { s with key := s.key.set j v }
  | .blkL => inputWrite r v s { s with blk := { s.blk with l := v } }
  | .blkR => inputWrite r v s { s with blk := { s.blk with r := v } }
  | .ctrl | .status | .digest _ | .p _ | .s _ _ | .reserved => s

/-- R200, R201: the reset input is asserted. An in-flight command is abandoned and every register takes its reset value;
the tables, the datapath registers and the counters take free values (notes/assumptions/6.md).
What waits and what was observed stay (notes/assumptions/11.md). -/
def assertReset (s : State) : State :=
  { State.reset with
    eng := Config.freeEngine s.draws
    counters := Config.freeCounters s.draws
    resetPin := true
    events := s.events
    reads := s.reads
    history := s.history
    draws := s.draws + 1 }

/-- R200: the reset input is released; every register keeps its value. -/
def releaseReset (s : State) : State := { s with resetPin := false }

end Sys2Proof.Machine
end

