-- ==== Sys2Proof/Machine/Cipher.lean ====
section
/-! DEFINITION. The Blowfish cipher core and the commands INIT and ENCRYPT (spec/40_cipher_core.md). -/

namespace Sys2Proof.Machine

/-- R100: the F-function. -/
def fFun (s : SBoxes) (x : Word) : Word :=
  let a := x.extractLsb' 24 8
  let b := x.extractLsb' 16 8
  let c := x.extractLsb' 8 8
  let d := x.extractLsb' 0 8
  ((s[0][a.toFin] + s[1][b.toFin]) ^^^ s[2][c.toFin]) + s[3][d.toFin]

/-- R101: round `i`: the halves are mixed, then swapped. -/
def round (p : PArray) (s : SBoxes) (i : Fin 16) (b : Block) : Block :=
  let l := b.l ^^^ p[i]
  let r := b.r ^^^ fFun s l
  ⟨r, l⟩

/-- R102: the 16 rounds, before the last swap is undone. -/
@[irreducible] def sixteenRounds (p : PArray) (s : SBoxes) (b : Block) : Block :=
  Nat.fold Config.rounds (fun i h b => round p s ⟨i, h⟩ b) b

/-- R102: `BF_ENC`: the rounds, the last swap undone, the final whitening. -/
def bfEnc (p : PArray) (s : SBoxes) (b : Block) : Block :=
  let x := sixteenRounds p s b
  ⟨x.r ^^^ p[17], x.l ^^^ p[16]⟩

/-- R104: INIT's completion. -/
def initEffect (s : State) : State :=
  { s with eng := { s.eng with p := piP, s := piS }, tv := true }

/-- R104: INIT (OP 0x1). -/
def execInit (s : State) : Host.Outcome State Fault Refusal := runCommand .init initEffect s

/-- R105: ENCRYPT's completion; one `BF_ENC` call (R207). -/
def encryptEffect (s : State) : State :=
  { s with blk := bfEnc s.eng.p s.eng.s s.blk, eng := { s.eng with encs := s.eng.encs + 1 } }

/-- R105: ENCRYPT (OP 0x2). -/
def execEncrypt (s : State) : Host.Outcome State Fault Refusal := runCommand .encrypt encryptEffect s

end Sys2Proof.Machine
end

