-- ==== Sys2Proof/Machine/KeySchedule.lean ====
section
/-! DEFINITION. The EksBlowfish key-schedule engine and the commands EXPKEY, EXPSALT, SEXPKEY and SETUP
(spec/41_key_schedule.md). A byte buffer is a function on positions with a length; every loop runs in the order of its
pseudocode, each table write visible to the next encryption (R63, R204). -/

namespace Sys2Proof.Machine

/-- R120: the wrap before a byte is read. -/
def wrapPos (len pos : Nat) : Nat := if len ≤ pos then 0 else pos

/-- R120: one pass of `STREAM`'s loop: wrap, shift one byte in, advance. -/
def streamByte (buf : Nat → Byte) (len : Nat) (vp : Word × Nat) : Word × Nat :=
  let pos := wrapPos len vp.2
  ((vp.1 <<< 8) ||| (buf pos).setWidth 32, pos + 1)

/-- R120: `STREAM(buf, len, pos)`: the next word and the next position. -/
def stream (buf : Nat → Byte) (len pos : Nat) : Word × Nat :=
  Nat.fold 4 (fun _ _ vp => streamByte buf len vp) (0, pos)

/-- R121: one pass of `KEYMIX`'s loop.
KPOS holds the next byte's index, 0..71 (R33), so the position that `STREAM` returns is stored wrapped
(DEDUCED, notes/assumptions/8.md). -/
def keymixStep (buf : Nat → Byte) (len : Nat) (i : Fin 18) (e : Engine) : Engine :=
  let wp := stream buf len e.kpos.val
  { e with p := e.p.set i (e.p[i] ^^^ wp.1), kpos := Fin.ofNat 72 (wrapPos len wp.2) }

/-- R121: `KEYMIX(P, key, len)`; the position restarts at 0 on every call. -/
@[irreducible] def keymix (buf : Nat → Byte) (len : Nat) (e : Engine) : Engine :=
  Nat.fold 18 (fun i h e => keymixStep buf len ⟨i, h⟩ e) { e with kpos := 0 }

/-- R122: the running block is encrypted under the tables as they now are; one `BF_ENC` call (R207). -/
def encryptRb (e : Engine) : Engine :=
  { e with rb := bfEnc e.p e.s e.rb, encs := e.encs + 1 }

/-- R122: `P[2i] <- RB_L; P[2i+1] <- RB_R`. -/
def storeP (i : Fin 9) (e : Engine) : Engine :=
  { e with p := (e.p.set (2 * i.val) e.rb.l).set (2 * i.val + 1) e.rb.r }

/-- R122: `S[k][2j] <- RB_L; S[k][2j+1] <- RB_R`. -/
def storeS (k : Fin 4) (j : Fin 128) (e : Engine) : Engine :=
  { e with s := e.s.set k ((e.s[k].set (2 * j.val) e.rb.l).set (2 * j.val + 1) e.rb.r) }

/-- R124: the next salt-stream word; SPOS, 0..15 (R33), advances. -/
def saltWord (salt : Nat → Byte) (e : Engine) : Word × Engine :=
  let wp := stream salt Config.saltLen e.spos.val
  (wp.1, { e with spos := Fin.ofNat 16 (wrapPos Config.saltLen wp.2) })

/-- R124: the running block XORed with the next two salt-stream words. -/
def xorSalt (salt : Nat → Byte) (e : Engine) : Engine :=
  let (w, e) := saltWord salt e
  let e := { e with rb := ⟨e.rb.l ^^^ w, e.rb.r⟩ }
  let (w, e) := saltWord salt e
  { e with rb := ⟨e.rb.l, e.rb.r ^^^ w⟩ }

/-- The loops that R122 and R124 share: `before` acts on the engine before each encryption.
The 9 encryptions of the P phase come first, then the 4 × 128 of the S phase, in order. -/
@[irreducible] def regenPass (before : Engine → Engine) (e : Engine) : Engine :=
  let e := Nat.fold 9 (fun i h e => storeP ⟨i, h⟩ (encryptRb (before e))) e
  Nat.fold 4 (fun k hk e =>
    Nat.fold 128 (fun j hj e => storeS ⟨k, hk⟩ ⟨j, hj⟩ (encryptRb (before e))) e) e

/-- R122: `REGEN(P, S)`. -/
def regen (e : Engine) : Engine := regenPass (fun e => e) { e with rb := ⟨0, 0⟩ }

/-- R123: `EXPAND(P, S, buf, len)`. -/
def expand (buf : Nat → Byte) (len : Nat) (e : Engine) : Engine := regen (keymix buf len e)

/-- R124: `SALTED_EXPAND(P, S, salt, key, len)`; SPOS is not reset between the phases. -/
def saltedExpand (salt key : Nat → Byte) (len : Nat) (e : Engine) : Engine :=
  regenPass (xorSalt salt) { keymix key len e with rb := ⟨0, 0⟩, spos := 0 }

/-- R125: one iteration of the schedule loop. -/
def eksIteration (salt key : Nat → Byte) (len : Nat) (e : Engine) : Engine :=
  expand salt Config.saltLen (expand key len e)

/-- R125: `EKS_SETUP(cost, salt, key, len)`: exactly `2^cost` iterations after one salted expansion of the INIT tables. -/
@[irreducible] def eksSetup (cost : Nat) (salt key : Nat → Byte) (len : Nat) (e : Engine) : Engine :=
  Nat.fold (2 ^ cost) (fun _ _ e => eksIteration salt key len e)
    (saltedExpand salt key len { e with p := piP, s := piS })

/-- R126: EXPKEY's completion. -/
def expKeyEffect (s : State) : State :=
  { s with eng := expand (keyByte s.key) s.keylen.toNat s.eng }

/-- R126: EXPKEY (OP 0x3). -/
def execExpKey (s : State) : Host.Outcome State Fault Refusal := runCommand .expKey expKeyEffect s

/-- R127: EXPSALT's completion. -/
def expSaltEffect (s : State) : State :=
  { s with eng := expand (saltByte s.salt) Config.saltLen s.eng }

/-- R127: EXPSALT (OP 0x4). -/
def execExpSalt (s : State) : Host.Outcome State Fault Refusal := runCommand .expSalt expSaltEffect s

/-- R128: SEXPKEY's completion. -/
def sExpKeyEffect (s : State) : State :=
  { s with eng := saltedExpand (saltByte s.salt) (keyByte s.key) s.keylen.toNat s.eng }

/-- R128: SEXPKEY (OP 0x5). -/
def execSExpKey (s : State) : Host.Outcome State Fault Refusal := runCommand .sExpKey sExpKeyEffect s

/-- R129: SETUP's completion. -/
def setupEffect (s : State) : State :=
  { s with
    eng := eksSetup s.cost.toNat (saltByte s.salt) (keyByte s.key) s.keylen.toNat s.eng
    tv := true }

/-- R129: SETUP (OP 0x6). -/
def execSetup (s : State) : Host.Outcome State Fault Refusal := runCommand .setup setupEffect s

end Sys2Proof.Machine
end

