-- ==== Sys2Proof/Machine/DigestControl.lean ====
section
/-! DEFINITION. The digest producer and the commands DIGEST, BCRYPT and ZEROIZE (spec/42_digest_and_control.md). -/

namespace Sys2Proof.Machine

/-- R151: one encryption of block `b` of the digest words; the second component counts the `BF_ENC` calls (R207). -/
def digestStep (p : PArray) (s : SBoxes) (b : Fin 3) (cn : DigestRegs × Nat) : DigestRegs × Nat :=
  let x := bfEnc p s ⟨cn.1[2 * b.val], cn.1[2 * b.val + 1]⟩
  ((cn.1.set (2 * b.val) x.l).set (2 * b.val + 1) x.r, cn.2 + 1)

/-- R151: `BC_DIGEST(P, S)`, with the number of `BF_ENC` calls it made. -/
@[irreducible] def bcDigestCounted (p : PArray) (s : SBoxes) : DigestRegs × Nat :=
  Nat.fold 3 (fun b h cn =>
    Nat.fold Config.digestIters (fun _ _ cn => digestStep p s ⟨b, h⟩ cn) cn) (magic, 0)

/-- R151: `BC_DIGEST(P, S)`. -/
def bcDigest (p : PArray) (s : SBoxes) : DigestRegs := (bcDigestCounted p s).1

/-- R152: DIGEST's completion. -/
def digestEffect (s : State) : State :=
  { s with
    digest := bcDigest s.eng.p s.eng.s
    eng := { s.eng with encs := s.eng.encs + (bcDigestCounted s.eng.p s.eng.s).2 } }

/-- R152: DIGEST (OP 0x7). -/
def execDigest (s : State) : Host.Outcome State Fault Refusal := runCommand .digest digestEffect s

/-- R153: BCRYPT's completion. -/
def bcryptEffect (s : State) : State :=
  let e := eksSetup s.cost.toNat (saltByte s.salt) (keyByte s.key) s.keylen.toNat s.eng
  { s with
    eng := { e with encs := e.encs + (bcDigestCounted e.p e.s).2 }
    tv := true
    digest := bcDigest e.p e.s }

/-- R153: BCRYPT (OP 0x8). -/
def execBcrypt (s : State) : Host.Outcome State Fault Refusal := runCommand .bcrypt bcryptEffect s

/-- R154: ZEROIZE's completion; COST and KEYLEN are kept. The rule names neither RB, KPOS nor SPOS
(notes/assumptions/7.md). -/
def zeroizeEffect (s : State) : State :=
  { s with
    eng := { s.eng with
      p := Vector.replicate 18 0
      s := Vector.replicate 4 (Vector.replicate 256 0) }
    key := Vector.replicate 18 0
    salt := Vector.replicate 4 0
    blk := ⟨0, 0⟩
    digest := Vector.replicate 6 0
    tv := false }

/-- R154: ZEROIZE (OP 0x9). -/
def execZeroize (s : State) : Host.Outcome State Fault Refusal := runCommand .zeroize zeroizeEffect s

end Sys2Proof.Machine
end

