-- ==== Sys2Proof/Machine/Dispatch.lean ====
section
/-! DEFINITION. One arm per command. -/

namespace Sys2Proof.Machine

def exec (i : Instr) (s : State) : Host.Outcome State Fault Refusal :=
  match i with
  | .init => Sys2Proof.Machine.execInit s
  | .encrypt => Sys2Proof.Machine.execEncrypt s
  | .expKey => Sys2Proof.Machine.execExpKey s
  | .expSalt => Sys2Proof.Machine.execExpSalt s
  | .sExpKey => Sys2Proof.Machine.execSExpKey s
  | .setup => Sys2Proof.Machine.execSetup s
  | .digest => Sys2Proof.Machine.execDigest s
  | .bcrypt => Sys2Proof.Machine.execBcrypt s
  | .zeroize => Sys2Proof.Machine.execZeroize s

end Sys2Proof.Machine
end

