-- ==== Sys2Proof/Machine/Fetch.lean ====
section
/-! DEFINITION. What the next step has to do: the next event at the core, or, where none waits, the engine (spec/20_memory.md R64, R65;
spec/60_exceptions.md R170, R176, R179; spec/70_reset_and_hazards.md R208). -/

namespace Sys2Proof.Machine

/-- R179: the engine's turn: the command in progress completes; an idle engine does nothing (R190). -/
def engineTurn (s : State) : Action :=
  if s.busy then
    match s.cur with
    | some i => .run i s
    | none => .reach s
  else .reach s

/-- R170, R172, R176: a CTRL write of `v`, the reset input released. -/
def ctrlWrite (v : Word) (s : State) : Action :=
  if s.busy then .reach (dropWrite .ctrl v s)
  else match decode v with
    | .ok i => .run i s
    | .error _ => .reach (reject .illegal v s)

/-- R56, R202: a host write; ignored while the reset input is asserted. -/
def hostWrite (off : Offset) (v : Word) (s : State) : Action :=
  if s.resetPin then .reach s
  else match regAt off with
    | .ctrl => ctrlWrite v s
    | r => .reach (writeReg r v s)

/-- One event at the core. -/
def onEvent (e : Event) (s : State) : Action :=
  match e with
  | .read off => .reach (hostRead off s)
  | .write off v => hostWrite off v s
  | .engine => engineTurn s
  | .assertReset => .reach (assertReset s)
  | .releaseReset => .reach (releaseReset s)

/-- What the next step does: the first waiting event, which leaves the list, or the engine's turn where none waits. -/
def fetch (s : State) : Action :=
  match s.events with
  | [] => engineTurn s
  | e :: rest => onEvent e { s with events := rest }

/-- A CTRL write of `v` made the core's next event, with the core out of reset and idle, so that the core takes it up. -/
def withCommandWord (v : Word) (s : State) : State :=
  { s with resetPin := false, busy := false, cur := none,
           events := .write (offsetOf .ctrl) v :: s.events }

end Sys2Proof.Machine
end

