-- ==== Sys2Proof/Machine/Step.lean ====
section
/-! DEFINITION. One step of the core, and the host's way to place a command word where the step takes up its next one. -/

namespace Sys2Proof.Machine

/-- One step: the next event or the engine's turn; a command it takes up, or that completes, is run by its meaning. -/
def step (s : State) : Host.Outcome State Fault Refusal :=
  match fetch s with
  | .run i s' => exec i s'
  | .reach s' => .next s'

/-- The command word whose low `nbits` bits are `w`, placed as the host's CTRL write that reaches the core next
(notes/assumptions/3.md). -/
def State.withFetchWord (s : State) (nbits w : Nat) : State :=
  withCommandWord (BitVec.ofNat 32 (w % 2 ^ nbits)) s

end Sys2Proof.Machine
end

