-- ==== Sys2Proof/Machine/HostProgram.lean ====
section
/-! DEFINITION. The host's notation: operations, pseudo-operations and their expansions (spec/30_encoding.md R88, R89), and
the host's duties for a bcrypt hash (spec/42_digest_and_control.md R156).
Machine/HostRun.lean runs a program: how often WAIT's loop reads STATUS depends on what it reads. -/

namespace Sys2Proof.Machine

/-- R88: `WR <reg>, <value>`. -/
def wr (r : Reg) (v : Word) : Event := .write (offsetOf r) v

/-- R88: `RD <reg>`. -/
def rd (r : Reg) : Event := .read (offsetOf r)

/-- R88: `CMD <MNEMONIC>`. -/
def cmd (i : Instr) : Event := wr .ctrl (encode i)

/-- R89: the test that ends a `WAIT`, on the STATUS word read. -/
def waitEnds (status : Word) : Bool := status.extractLsb' 0 1 = 0

/-- R89: the test of `CHECK` on the STATUS word read. -/
def checkPasses (status : Word) : Bool := status.extractLsb' 4 4 = 0

/-- R89: word `j` of `LOADKEY` or `LOADSALT`; positions past the end are 0x00. -/
def packedWord (bs : List Byte) (j : Nat) : Word :=
  be32 (bs.getD (4 * j) 0) (bs.getD (4 * j + 1) 0) (bs.getD (4 * j + 2) 0) (bs.getD (4 * j + 3) 0)

/-- R89: `LOADKEY b0 … b(n-1)`, n in 1..72.
DESIGN CHOICE (notes/assumptions/24.md): R89 gives no other n; on a list of another length the same writes are made. -/
def loadKey (bs : List Byte) : List Event :=
  (List.range ((bs.length + 3) / 4)).map
      (fun j => .write (BitVec.ofNat 13 (0x020 + 4 * j)) (packedWord bs j))
    ++ [wr .keylen (BitVec.ofNat 32 bs.length)]

/-- R89: `LOADSALT b0 … b15`, 16 bytes.
DESIGN CHOICE (notes/assumptions/24.md): R89 gives no other number of bytes; a shorter list is padded with 0x00 and a longer one
cut. -/
def loadSalt (bs : List Byte) : List Event :=
  (List.range 4).map (fun j => .write (BitVec.ofNat 13 (0x010 + 4 * j)) (packedWord bs j))

/-- R89: `SETBLK l, r`. -/
def setBlk (l r : Word) : List Event := [wr .blkL l, wr .blkR r]

/-- R156: the key buffer the host forms from a password; none where the password holds a NUL byte. -/
def hostKeyBuffer (pw : List Byte) : Option (List Byte) :=
  if pw.contains 0 then none else some ((pw ++ [0]).take Config.keyMax)

/-- R88, R89: an operation or pseudo-operation of a host program. -/
inductive HostOp where
  | wr (r : Reg) (v : Word)
  | rd (r : Reg)
  | cmd (i : Instr)
  | wait
  | check
  | run (i : Instr)
  | loadKey (bs : List Byte)
  | loadSalt (bs : List Byte)
  | setBlk (l r : Word)
deriving DecidableEq, Repr

/-- R89: what an operation expands to: bus transactions, WAIT's loop of STATUS reads, and CHECK's STATUS read, the last two
with the test the host makes on what it reads. -/
inductive Access where
  | bus (e : Event)
  | wait
  | check
deriving DecidableEq, Repr

/-- R88, R89: the expansion of an operation. -/
def expandOp : HostOp → List Access
  | .wr r v => [.bus (wr r v)]
  | .rd r => [.bus (rd r)]
  | .cmd i => [.bus (cmd i)]
  | .wait => [.wait]
  | .check => [.check]
  | .run i => [.bus (cmd i), .wait, .check]
  | .loadKey bs => (loadKey bs).map .bus
  | .loadSalt bs => (loadSalt bs).map .bus
  | .setBlk l r => (setBlk l r).map .bus

/-- R88, R89: the expansion of a host program. -/
def expandProgram (ops : List HostOp) : List Access := ops.flatMap expandOp

/-- R156: a bcrypt computation. -/
def bcryptProgram (cost : Word) (salt key : List Byte) : List HostOp :=
  [.loadKey key, .loadSalt salt, .wr .cost cost, .run .bcrypt]

/-- R210: an operation after which the run goes on until BUSY = 0: CMD and RUN.
A `WR CTRL` of a command word has CMD's machine form (R88) and counts as CMD (DEDUCED, notes/assumptions/20.md). -/
def issuesCommand : HostOp → Bool
  | .wr r v => decide (r = .ctrl) && CommandWord.wf v
  | .cmd _ | .run _ => true
  | .rd _ | .wait | .check | .loadKey _ | .loadSalt _ | .setBlk _ _ => false

/-- R210: the program's last operation is CMD or RUN. -/
def endsWithCommand (ops : List HostOp) : Bool := ops.getLast?.any issuesCommand

end Sys2Proof.Machine
end

