-- ==== Sys2Proof/Machine/HostRun.lean ====
section
/-! DEFINITION. A host program running against the core (spec/30_encoding.md R88, R89; spec/70_reset_and_hazards.md R210).
The host stands outside the core, so it is no part of `State`: it makes one access at a time, and decides by what STATUS
reads whether WAIT's loop goes round again and whether a CHECK has failed. -/

namespace Sys2Proof.Machine

/-- A host program on its way. -/
structure HostRun where
  /-- The program. -/
  ops : List HostOp
  /-- What is left of its expansion. -/
  todo : List Access
  /-- The core, with what else waits at it (another bus master, the reset input). -/
  core : State
  /-- R210: what the program's reads returned, newest first.
  DESIGN CHOICE (notes/assumptions/25.md): the STATUS reads that WAIT and CHECK expand to are among them. -/
  replies : List Reply
  /-- R89, R210: a CHECK has seen ERR ≠ 0. -/
  checkFailed : Bool
  /-- The length of the core's history when the run began.
  DESIGN CHOICE (notes/assumptions/21.md): a run's event history begins at its first operation. -/
  earlier : Nat
deriving DecidableEq, Repr

/-- The run of `ops` on a core, before its first operation. -/
def startRun (ops : List HostOp) (s : State) : HostRun where
  ops := ops
  todo := expandProgram ops
  core := s
  replies := []
  checkFailed := false
  earlier := s.history.length

/-- The bus transaction of an access; WAIT and CHECK read STATUS (R89). -/
def busEvent : Access → Event
  | .bus e => e
  | .wait | .check => rd .status

/-- The word the core's newest read returned. -/
def newestReply (s : State) : Word := (s.reads.head?.map Reply.data).getD 0

/-- What the core replied between two states. -/
def newReplies (before after : State) : List Reply := after.reads.take (after.reads.length - before.reads.length)

/-- R89: the host once the core, now `t`, has processed access `a`: a WAIT whose read saw BUSY = 1 is made again, and a CHECK
whose read saw ERR ≠ 0 fails the run. That these reads join the replies is the model's choice (notes/assumptions/25.md). -/
def afterAccess (a : Access) (rest : List Access) (h : HostRun) (t : State) : HostRun :=
  let h := { h with core := t, todo := rest, replies := newReplies h.core t ++ h.replies }
  match a with
  | .bus _ => h
  | .wait => if waitEnds (newestReply t) then h else { h with todo := .wait :: rest }
  | .check => { h with checkFailed := h.checkFailed || !checkPasses (newestReply t) }

/-- One step of the core, and what the run becomes by it. -/
def withStep (s : State) (becomes : State → HostRun) : Host.Outcome HostRun Fault Refusal :=
  match step s with
  | .next t => .next (becomes t)
  | .fault r => .fault r
  | .refused r => .refused r

/-- The host makes its next access, and the core processes it. -/
def hostTurn (h : HostRun) : Host.Outcome HostRun Fault Refusal :=
  match h.todo with
  | [] => .next h
  | a :: rest => withStep { h.core with events := busEvent a :: h.core.events } (afterAccess a rest h)

/-- The core takes a step of its own: what else waits at it, or the engine's turn. -/
def coreTurn (h : HostRun) : Host.Outcome HostRun Fault Refusal := withStep h.core (fun t => { h with core := t })

/-- Whose turn it is. The order of the turns is what LAT (R208), BUS_ORDER (R64) and R183 leave open. -/
inductive Turn where
  | host
  | core
deriving DecidableEq, Repr

/-- The turns of a list, one after another. -/
def playTurns : List Turn → HostRun → Host.Outcome HostRun Fault Refusal
  | [], h => .next h
  | turn :: turns, h =>
    match (match turn with | .host => hostTurn h | .core => coreTurn h) with
    | .next h => playTurns turns h
    | .fault r => .fault r
    | .refused r => .refused r

/-- R210: the run has ended: its last operation has been processed and, if that is CMD or RUN, the command has completed.
A run that ends in a read or a register write ends whether a command runs or not. -/
def runEnded (h : HostRun) : Bool := h.todo.isEmpty && (!endsWithCommand h.ops || !h.core.busy)

/-- R210: a CHECK saw ERR ≠ 0, or a rejection or a dropped write is in the run's event history.
DESIGN CHOICE (notes/assumptions/21.md): that history begins at the run's first operation. -/
def failedRun (h : HostRun) : Bool := h.checkFailed || decide (h.earlier < h.core.history.length)

/-- R210: the final register state of a run.
DESIGN CHOICE (notes/assumptions/23.md): R210 does not list it; the model takes the host registers and the tables of R20 as far
as a read gives an exact value: BLK, DIGEST and the tables while BUSY = 0 (R55), the tables while TV = 1 (R58). -/
structure FinalRegisters where
  status : Word
  cost : Word
  keylen : Word
  salt : SaltRegs
  key : KeyRegs
  blk : Option Block
  digest : Option DigestRegs
  tables : Option (PArray × SBoxes)
deriving DecidableEq, Repr

/-- The final register state of a run that leaves the core in `s` (notes/assumptions/23.md). -/
def finalRegisters (s : State) : FinalRegisters where
  status := statusWord s
  cost := s.cost.setWidth 32
  keylen := s.keylen.setWidth 32
  salt := s.salt
  key := s.key
  blk := if s.busy then none else some s.blk
  digest := if s.busy then none else some s.digest
  tables := if s.busy || !s.tv then none else some (s.eng.p, s.eng.s)

/-- R210: the observation of a run: what its reads returned, in order, and the final register state.
What the latter covers is the model's choice (notes/assumptions/23.md).
That the reads of WAIT and CHECK are among the former is too (notes/assumptions/25.md). -/
def observation (h : HostRun) : List Reply × FinalRegisters := (h.replies.reverse, finalRegisters h.core)

end Sys2Proof.Machine
end

