-- ==== Sys2Proof/Safety.lean ====
section
/-! DEFINITION. What claims about the core are made of: the invariant of its state (spec/10_state.md R24, R34;
spec/60_exceptions.md R170, R177 and modelling note; spec/70_reset_and_hazards.md R200), and what a host can observe.
The end of a host program's run and a failed run (R210) stand in Machine/HostRun.lean. -/

namespace Sys2Proof.Machine

/-- R24: "BUSY and DONE are never both 1". -/
def statusLegal (s : State) : Bool := !(s.busy && s.done)

/-- R34: CUR is none exactly when BUSY = 0. -/
def curMatchesBusy (s : State) : Bool := s.busy == s.cur.isSome

/-- R170, R177: a command in progress still passes the checks it was accepted under, LASTOP is its opcode, and
ERR is 0 or, after a dropped write, E_BUSY. -/
def acceptedCommand (s : State) : Bool :=
  match s.cur with
  | none => true
  | some i => commandCheck i s == .none && s.lastOp == opcode i && (s.err == .none || s.err == .busy)

/-- The error code a report was made with. -/
def Report.code : Report → Err
  | .rejected c _ => c
  | .dropped _ _ => .busy

/-- An error that STATUS shows is the newest report of the history (the modelling note of spec/60_exceptions.md; what an
entry holds is a DESIGN CHOICE, notes/assumptions/11.md). -/
def errRecorded (s : State) : Bool :=
  s.err == .none || s.history.head?.map Report.code == some s.err

/-- R200: every register with a reset value holds it. -/
def atResetValues (s : State) : Bool :=
  !s.tv && !s.busy && !s.done && s.err == .none && s.lastOp == 0 && s.cost == 0 && s.keylen == 0 &&
    decide (s.key = Vector.replicate 18 0) && decide (s.salt = Vector.replicate 4 0) &&
    s.blk == ⟨0, 0⟩ && decide (s.digest = Vector.replicate 6 0) && s.cur.isNone

/-- R200, R202: while the reset input is asserted every register holds its reset value. -/
def resetHolds (s : State) : Bool := !s.resetPin || atResetValues s

/-- The invariant of the core's state. -/
abbrev State.Inv (s : State) : Prop :=
  statusLegal s = true ∧ curMatchesBusy s = true ∧ acceptedCommand s = true ∧
    errRecorded s = true ∧ resetHolds s = true

/-- Two states that no host can tell apart: they agree on everything but the tables and the engine's internal
registers, and on P and S too once TV = 1 (R21, R22, R32 to R34, R200). -/
def hostEquiv (s t : State) : Prop :=
  t = { s with eng := t.eng, counters := t.counters } ∧
    (s.tv = true → t.eng.p = s.eng.p ∧ t.eng.s = s.eng.s)

/-- `n` steps of the core. -/
abbrev run (n : Nat) (s : State) : Host.Outcome State Fault Refusal := Host.Core.run Sys2Proof.core n s

end Sys2Proof.Machine
end

