-- ==== Sys2Proof/Certificates/Slice0/Obligations.lean ====
section
/-! DEFINITION. The statements about the core, each with the rule of spec/ it formalises.
Under `Sys2Proof.Spec` stand the reference forms some of them compare the model with, written from the rule's own pseudocode. -/

namespace Sys2Proof.Spec

open Sys2Proof.Machine

/-- R171: `CHECK(v)`, line by line, on the numbers of R81. -/
def check (v : Word) (s : State) : Err :=
  let op := (v.extractLsb' 0 4).toNat
  if v.extractLsb' 4 28 ≠ 0 ∨ op = 0 ∨ 9 < op then .illegal
  else if (op = 6 ∨ op = 8) ∧ s.cost.toNat < 4 then .cost
  else if (op = 3 ∨ op = 5 ∨ op = 6 ∨ op = 8) ∧ (s.keylen.toNat = 0 ∨ 72 < s.keylen.toNat) then .keylen
  else if (op = 2 ∨ op = 3 ∨ op = 4 ∨ op = 5 ∨ op = 7) ∧ s.tv = false then .noTables
  else .none

/-- R170: what a CTRL write of `v` does, line by line; the history entries are the modelling note's. -/
def ctrlWrite (v : Word) (s : State) : State :=
  if s.busy then { s with err := .busy, history := .dropped .ctrl v :: s.history }
  else if check v s ≠ .none then
    { s with lastOp := v.extractLsb' 0 4, err := check v s, done := true,
             history := .rejected (check v s) v :: s.history }
  else
    { s with lastOp := v.extractLsb' 0 4, err := .none, done := false, busy := true,
             cur := decodeOp (v.extractLsb' 0 4) }

/-- R171, R173 to R175: when a command is accepted, the operands and the mode bit TV alone. -/
def ready (i : Instr) (s : State) : Prop :=
  match i with
  | .init | .zeroize => True
  | .encrypt | .expSalt | .digest => s.tv = true
  | .expKey | .sExpKey => 1 ≤ s.keylen.toNat ∧ s.keylen.toNat ≤ 72 ∧ s.tv = true
  | .setup | .bcrypt => 4 ≤ s.cost.toNat ∧ 1 ≤ s.keylen.toNat ∧ s.keylen.toNat ≤ 72

/-- R54, R58: what an idle core answers to a read of a register. -/
def idleValue (s : State) : Reg → Word
  | .ctrl => 0
  | .status => statusWord s
  | .cost => s.cost.setWidth 32
  | .keylen => s.keylen.setWidth 32
  | .salt j => s.salt[j]
  | .key j => s.key[j]
  | .blkL => s.blk.l
  | .blkR => s.blk.r
  | .digest j => s.digest[j]
  | .p i => if s.tv then s.eng.p[i] else 0
  | .s k i => if s.tv then s.eng.s[k][i] else 0
  | .reserved => 0

/-- R55: the registers whose read is exact while BUSY. -/
def exactWhileBusy : Reg → Bool
  | .ctrl | .status | .cost | .keylen | .salt _ | .key _ | .reserved => true
  | .blkL | .blkR | .digest _ | .p _ | .s _ _ => false

/-- R56, R177: the input registers, which the host writes. -/
def isInput : Reg → Bool
  | .cost | .keylen | .salt _ | .key _ | .blkL | .blkR => true
  | .ctrl | .status | .digest _ | .p _ | .s _ _ | .reserved => false

/-- R26, R27, R56: what an input register reads after a write of `v`. -/
def stored (r : Reg) (v : Word) : Word :=
  match r with
  | .cost => BitVec.ofNat 32 (v.toNat % 32)
  | .keylen => BitVec.ofNat 32 (v.toNat % 128)
  | _ => v

/-- R103: `BF_ENC` without swaps, two rounds a step. -/
def inPlaceEnc (p : PArray) (s : SBoxes) (b : Block) : Block :=
  let x := (List.finRange 8).foldl (fun (x : Block) (j : Fin 8) =>
    let l := x.l ^^^ p[Fin.ofNat 18 (2 * j.val)]
    let r := x.r ^^^ fFun s l
    let r := r ^^^ p[Fin.ofNat 18 (2 * j.val + 1)]
    ⟨l ^^^ fFun s r, r⟩) b
  ⟨x.r ^^^ p[17], x.l ^^^ p[16]⟩

/-- R120: the big-endian word of four buffer bytes from `start` on, cyclically. -/
def cyclicWord (buf : Nat → Byte) (len start : Nat) : Word :=
  be32 (buf (start % len)) (buf ((start + 1) % len)) (buf ((start + 2) % len)) (buf ((start + 3) % len))

/-- R120: the position after `n` stream words from position 0. -/
def streamPos (buf : Nat → Byte) (len : Nat) : Nat → Nat
  | 0 => 0
  | n + 1 => (stream buf len (streamPos buf len n)).2

/-- R122, R124: encryption number `n` of a regeneration pass, n in 0..520: the running block is XORed with `mask n`,
encrypted, and overwrites table words 2n and 2n+1 of P, then S[0] to S[3]. -/
def passStep (mask : Nat → Block) (n : Nat) (e : Engine) : Engine :=
  let b := bfEnc e.p e.s ⟨e.rb.l ^^^ (mask n).l, e.rb.r ^^^ (mask n).r⟩
  let e := { e with rb := b, encs := e.encs + 1 }
  if n < 9 then
    { e with p := (e.p.setIfInBounds (2 * n) b.l).setIfInBounds (2 * n + 1) b.r }
  else
    let k := (n - 9) / 128
    let j := (n - 9) % 128
    { e with s := e.s.setIfInBounds k (((e.s[k]!).setIfInBounds (2 * j) b.l).setIfInBounds (2 * j + 1) b.r) }

/-- R122, R124: the first `n` encryptions of a pass. -/
def pass (mask : Nat → Block) : Nat → Engine → Engine
  | 0, e => e
  | n + 1, e => passStep mask n (pass mask n e)

/-- R151: `BF_ENC^n`. -/
def encIter (p : PArray) (s : SBoxes) : Nat → Block → Block
  | 0, b => b
  | n + 1, b => bfEnc p s (encIter p s n b)

/-- R207: the number of `BF_ENC` calls of a command, `c` the cost. -/
def encryptions (i : Instr) (c : Nat) : Nat :=
  match i with
  | .init | .zeroize => 0
  | .encrypt => 1
  | .expKey | .expSalt | .sExpKey => 521
  | .setup => 521 + 1042 * 2 ^ c
  | .digest => 192
  | .bcrypt => 713 + 1042 * 2 ^ c

/-- R89: a command issued and run to its completion, with no read in between. -/
def issued (i : Instr) : List Event := [cmd i, .engine]

/-- R170: the next step is a CTRL write that is accepted. -/
def acceptance (s : State) : Prop :=
  ∃ off v rest, s.resetPin = false ∧ s.busy = false ∧ regAt off = .ctrl ∧ s.events = .write off v :: rest ∧
    check v s = .none

/-- R170: the next step is a CTRL write that is rejected. -/
def rejection (s : State) : Prop :=
  ∃ off v rest, s.resetPin = false ∧ s.busy = false ∧ regAt off = .ctrl ∧ s.events = .write off v :: rest ∧
    check v s ≠ .none

/-- R176, R177: the next step is a write that is dropped. -/
def droppedWrite (s : State) : Prop :=
  ∃ off v rest, s.resetPin = false ∧ s.busy = true ∧ s.events = .write off v :: rest ∧
    (regAt off = .ctrl ∨ isInput (regAt off) = true)

/-- R179: the next step is the completion of `i`. -/
def completion (i : Instr) (s : State) : Prop :=
  s.busy = true ∧ s.cur = some i ∧ (s.events = [] ∨ ∃ rest, s.events = .engine :: rest)

/-- R200: the next step asserts the reset input. -/
def resets (s : State) : Prop := ∃ rest, s.events = .assertReset :: rest

end Sys2Proof.Spec

open Sys2Proof Sys2Proof.Machine

/-! ### Encoding and the register map -/

/-- R80 to R83: the 2^32 command words are the nine encodings and the illegal ones, and no bit of a word is dropped. -/
def Obligations.EveryWordIsItsCommandOrIllegal : Prop :=
  (∀ i : Instr, decode (encode i) = .ok i) ∧
  ∀ v : Word,
    match decode v with
    | .ok i => v = encode i
    | .error .reservedBits => v.extractLsb' 4 28 ≠ 0
    | .error .reservedOpcode =>
        v.extractLsb' 4 28 = 0 ∧ (v.extractLsb' 0 4 = 0 ∨ 0xA ≤ (v.extractLsb' 0 4).toNat)

/-- R81: words written out from the opcode map. -/
def Obligations.OpcodeMapWords : Prop :=
  decode 0x00000001 = .ok .init ∧ decode 0x00000002 = .ok .encrypt ∧ decode 0x00000005 = .ok .sExpKey ∧
  decode 0x00000008 = .ok .bcrypt ∧ decode 0x00000009 = .ok .zeroize ∧
  decode 0x00000000 = .error .reservedOpcode ∧ decode 0x0000000A = .error .reservedOpcode ∧
  decode 0x80000001 = .error .reservedBits

/-- R51, R52, R53: every register stands at its offset, every offset reaches the register of its word, and the reserved
offsets are those of R52. -/
def Obligations.RegisterMapRoundTrip : Prop :=
  (∀ r : Reg, r ≠ .reserved → regAt (offsetOf r) = r) ∧
  ∀ off : Offset,
    (regAt off = .reserved ∨ offsetOf (regAt off) = off &&& 0x1FFC) ∧
    (regAt off = .reserved ↔
      let a := (off &&& 0x1FFC).toNat
      (0x068 ≤ a ∧ a ≤ 0x07C) ∨ (0x088 ≤ a ∧ a ≤ 0x08C) ∨ (0x0A8 ≤ a ∧ a ≤ 0x0FC) ∨ (0x148 ≤ a ∧ a ≤ 0xFFC))

/-! ### Host reads and writes -/

/-- R54: what a read returns while BUSY = 0, and that it changes nothing. -/
def Obligations.IdleReadReturnsRegister : Prop :=
  ∀ (s : State) (off : Offset) (rest : List Event),
    s.resetPin = false → s.busy = false → s.events = .read off :: rest →
    step s = .next { s with events := rest, reads := ⟨off, Spec.idleValue s (regAt off)⟩ :: s.reads }

/-- R55: what a read returns while BUSY = 1. The unspecified value is some word, and nothing is said of it. -/
def Obligations.BusyReadExactOrUnspecified : Prop :=
  ∀ (s : State) (off : Offset) (rest : List Event),
    s.resetPin = false → s.busy = true → s.events = .read off :: rest →
    (Spec.exactWhileBusy (regAt off) = true →
      step s = .next { s with events := rest, reads := ⟨off, Spec.idleValue s (regAt off)⟩ :: s.reads }) ∧
    (Spec.exactWhileBusy (regAt off) = false →
      ∃ w : Word, step s = .next { s with events := rest, reads := ⟨off, w⟩ :: s.reads, draws := s.draws + 1 })

/-- R58: table read-back at the offsets the rule writes out. -/
def Obligations.TableReadBack : Prop :=
  ∀ (s : State) (rest : List Event), s.resetPin = false →
    (∀ i : Fin 18, s.events = .read (BitVec.ofNat 13 (0x100 + 4 * i.val)) :: rest →
      ∃ (w : Word) (d : Nat),
        step s = .next { s with events := rest, draws := d,
                                reads := ⟨BitVec.ofNat 13 (0x100 + 4 * i.val), w⟩ :: s.reads } ∧
        (s.busy = false → w = if s.tv = false then 0 else s.eng.p[i])) ∧
    (∀ (k : Fin 4) (i : Fin 256),
      s.events = .read (BitVec.ofNat 13 (4 * (0x400 + 256 * k.val + i.val))) :: rest →
      ∃ (w : Word) (d : Nat),
        step s = .next { s with events := rest, draws := d,
                                reads := ⟨BitVec.ofNat 13 (0x1000 + 1024 * k.val + 4 * i.val), w⟩ :: s.reads } ∧
        (s.busy = false → w = if s.tv = false then 0 else s.eng.s[k][i]))

/-- R56 with R26 and R27: after a write while idle, a read of any offset returns what was written, cut to the register's
field, at the register written, and what it returned before everywhere else. -/
def Obligations.ReadAfterIdleWrite : Prop :=
  ∀ (s : State) (off off' : Offset) (v : Word) (rest : List Event),
    s.resetPin = false → s.busy = false → regAt off ≠ .ctrl →
    s.events = .write off v :: .read off' :: rest →
    ∃ t, run 2 s = .next t ∧
      t.reads = ⟨off', if Spec.isInput (regAt off) = true ∧ regAt off' = regAt off then Spec.stored (regAt off) v
                       else Spec.idleValue s (regAt off')⟩ :: s.reads

/-- R56: a write while idle of anything but CTRL changes the one register it reaches, and for a read-only or reserved
offset nothing. -/
def Obligations.IdleWriteFrame : Prop :=
  ∀ (s : State) (off : Offset) (v : Word) (rest : List Event),
    s.resetPin = false → s.busy = false → regAt off ≠ .ctrl → s.events = .write off v :: rest →
    ∃ t, step s = .next t ∧
      t = { s with events := rest, cost := t.cost, keylen := t.keylen, salt := t.salt, key := t.key, blk := t.blk } ∧
      (∀ r : Reg, ¬ (Spec.isInput (regAt off) = true ∧ r = regAt off) → Spec.idleValue t r = Spec.idleValue s r)

/-- R177 and R52: a write of an input register while BUSY is dropped with E_BUSY, and one of a read-only or reserved
offset is ignored.
The history entry is the model's choice (spec/60_exceptions.md, Modelling note; notes/assumptions/11.md). -/
def Obligations.BusyInputWriteDropped : Prop :=
  ∀ (s : State) (off : Offset) (v : Word) (rest : List Event),
    s.resetPin = false → s.busy = true → s.events = .write off v :: rest →
    (Spec.isInput (regAt off) = true →
      step s = .next { s with events := rest, err := .busy, history := .dropped (regAt off) v :: s.history }) ∧
    (Spec.isInput (regAt off) = false → regAt off ≠ .ctrl → step s = .next { s with events := rest })

/-- R176: a CTRL write while BUSY is lost: the command in progress completes as if it had not been made, LASTOP keeps its
value, and ERR = 5 stands after the completion.
The history entry is the model's choice (spec/60_exceptions.md, Modelling note; notes/assumptions/11.md). -/
def Obligations.BusyCommandLost : Prop :=
  ∀ (s : State) (off : Offset) (v : Word) (i : Instr) (rest : List Event),
    s.resetPin = false → s.busy = true → s.cur = some i → regAt off = .ctrl →
    s.events = .write off v :: .engine :: rest →
    ∃ t u, exec i { s with events := rest } = .next u ∧ run 2 s = .next t ∧
      t = { u with err := .busy, history := .dropped .ctrl v :: s.history } ∧
      t.busy = false ∧ t.done = true ∧ t.lastOp = s.lastOp ∧ u.history = s.history

/-- R57: only the named commands, and a reset, change the tables; no host write does. -/
def Obligations.TablesChangeOnlyByCommand : Prop :=
  ∀ s t : State, step s = .next t → (t.eng.p ≠ s.eng.p ∨ t.eng.s ≠ s.eng.s) →
    (∃ i, i ∈ [Instr.init, .expKey, .expSalt, .sExpKey, .setup, .bcrypt, .zeroize] ∧
      s.busy = true ∧ s.cur = some i ∧ t.busy = false ∧ t.done = true) ∨
    (∃ rest, s.events = .assertReset :: rest)

/-! ### STATUS, acceptance and errors -/

/-- R24, R171: the fields of the STATUS word, its reserved bits, and the numbers of the error codes. -/
def Obligations.StatusWordLayout : Prop :=
  (∀ s : State,
    (statusWord s).getLsbD 0 = s.busy ∧ (statusWord s).getLsbD 1 = s.done ∧ (statusWord s).getLsbD 2 = s.tv ∧
    (statusWord s).getLsbD 3 = false ∧ (statusWord s).extractLsb' 4 4 = errCode s.err ∧
    (statusWord s).extractLsb' 8 4 = s.lastOp ∧ (statusWord s).extractLsb' 12 20 = 0) ∧
  [Err.none, .illegal, .cost, .keylen, .noTables, .busy].map errCode = [0, 1, 2, 3, 4, 5]

/-- R24, R23, R181, R182: what can change each field of STATUS. DONE (and with it the `done` output) rises on a completion or a
rejection and falls on an acceptance or a reset, ERR is cleared by an acceptance or a reset alone, and no read changes any. -/
def Obligations.StatusFieldsHaveCauses : Prop :=
  ∀ s t : State, step s = .next t →
    (t.busy ≠ s.busy →
      (t.busy = true ∧ Spec.acceptance s) ∨ (t.busy = false ∧ ((∃ i, Spec.completion i s) ∨ Spec.resets s))) ∧
    (t.done ≠ s.done →
      (t.done = true ∧ (Spec.rejection s ∨ ∃ i, Spec.completion i s)) ∨
      (t.done = false ∧ (Spec.acceptance s ∨ Spec.resets s))) ∧
    (t.err ≠ s.err →
      (t.err ≠ .none ∧ (Spec.rejection s ∨ Spec.droppedWrite s)) ∨
      (t.err = .none ∧ (Spec.acceptance s ∨ Spec.resets s))) ∧
    (t.lastOp ≠ s.lastOp → Spec.acceptance s ∨ Spec.rejection s ∨ Spec.resets s) ∧
    (t.tv ≠ s.tv →
      (t.tv = true ∧ ∃ i ∈ [Instr.init, .setup, .bcrypt], Spec.completion i s) ∨
      (t.tv = false ∧ (Spec.completion .zeroize s ∨ Spec.resets s)))

/-- R170, R171: a CTRL write does what the pseudocode of R170 says, with `CHECK` as R171 writes it. -/
def Obligations.CtrlWriteFollowsPseudocode : Prop :=
  ∀ (s : State) (off : Offset) (v : Word) (rest : List Event),
    s.resetPin = false → regAt off = .ctrl → s.events = .write off v :: rest →
    step s = .next (Spec.ctrlWrite v { s with events := rest }) ∧
    (s.busy = false → Spec.check v s = .none → ∃ i, decodeOp (v.extractLsb' 0 4) = some i ∧ encode i = v)

/-- R170, R171: a command whose checks pass is accepted. -/
def Obligations.ReadyCommandAccepted : Prop :=
  ∀ (i : Instr) (s : State), s.busy = false → Spec.ready i s →
    exec i s = .next { s with err := .none, done := false, busy := true, lastOp := opcode i, cur := some i }

/-- R172: an illegal word is rejected with E_ILLEGAL.
The history entry is the model's choice (spec/60_exceptions.md, Modelling note; notes/assumptions/11.md). -/
def Obligations.IllegalWordRejected : Prop :=
  ∀ (s : State) (off : Offset) (v : Word) (rest : List Event),
    s.resetPin = false → s.busy = false → regAt off = .ctrl → s.events = .write off v :: rest →
    (v.extractLsb' 4 28 ≠ 0 ∨ v.extractLsb' 0 4 = 0 ∨ 0xA ≤ (v.extractLsb' 0 4).toNat) →
    step s = .next { s with events := rest, err := .illegal, done := true, lastOp := v.extractLsb' 0 4,
                            history := .rejected .illegal v :: s.history }

/-- R173: E_COST is raised by SETUP and BCRYPT at a cost of 0 to 3, and by nothing else.
The history entry is the model's choice (spec/60_exceptions.md, Modelling note; notes/assumptions/11.md). -/
def Obligations.CostErrorExactly : Prop :=
  ∀ (i : Instr) (s : State), s.busy = false →
    (exec i s = .next { s with err := .cost, done := true, lastOp := opcode i,
                               history := .rejected .cost (encode i) :: s.history } ↔
      (i = .setup ∨ i = .bcrypt) ∧ s.cost.toNat ∈ [0, 1, 2, 3])

/-- R174: E_KEYLEN is raised by the four commands that read KEY at a length of 0 or 73 to 127; for SETUP and BCRYPT the
cost is checked first (R171).
The history entry is the model's choice (spec/60_exceptions.md, Modelling note; notes/assumptions/11.md). -/
def Obligations.KeyLengthErrorExactly : Prop :=
  ∀ (i : Instr) (s : State), s.busy = false →
    (exec i s = .next { s with err := .keylen, done := true, lastOp := opcode i,
                               history := .rejected .keylen (encode i) :: s.history } ↔
      ((i = .expKey ∨ i = .sExpKey) ∨ ((i = .setup ∨ i = .bcrypt) ∧ 4 ≤ s.cost.toNat)) ∧
        (s.keylen = 0 ∨ 73 ≤ s.keylen.toNat))

/-- R175: E_NOTABLES is raised by the five commands that read the tables while TV = 0; for EXPKEY and SEXPKEY the key
length is checked first (R171).
The history entry is the model's choice (spec/60_exceptions.md, Modelling note; notes/assumptions/11.md). -/
def Obligations.NoTablesErrorExactly : Prop :=
  ∀ (i : Instr) (s : State), s.busy = false →
    (exec i s = .next { s with err := .noTables, done := true, lastOp := opcode i,
                               history := .rejected .noTables (encode i) :: s.history } ↔
      s.tv = false ∧
        ((i = .encrypt ∨ i = .expSalt ∨ i = .digest) ∨
          ((i = .expKey ∨ i = .sExpKey) ∧ 1 ≤ s.keylen.toNat ∧ s.keylen.toNat ≤ 72)))

/-- R9, R28, R29, R31: the words of KEY, SALT and DIGEST are their bytes, most significant first. -/
def Obligations.RegistersAreBigEndianBytes : Prop :=
  (∀ (key : KeyRegs) (j : Fin 18),
    key[j] = be32 (keyByte key (4 * j.val)) (keyByte key (4 * j.val + 1)) (keyByte key (4 * j.val + 2))
      (keyByte key (4 * j.val + 3))) ∧
  (∀ (salt : SaltRegs) (j : Fin 4),
    salt[j] = be32 (saltByte salt (4 * j.val)) (saltByte salt (4 * j.val + 1)) (saltByte salt (4 * j.val + 2))
      (saltByte salt (4 * j.val + 3))) ∧
  (∀ (digest : DigestRegs) (j : Fin 6),
    digest[j] = be32 (digestByte digest (Fin.ofNat 24 (4 * j.val))) (digestByte digest (Fin.ofNat 24 (4 * j.val + 1)))
      (digestByte digest (Fin.ofNat 24 (4 * j.val + 2))) (digestByte digest (Fin.ofNat 24 (4 * j.val + 3))))

/-! ### Each command's completion: its own effect, and nothing else

RB, KPOS, SPOS and the counters hold no specified value between commands (U3), so `e` and `c` take some; the number of
encryptions `e.encs` is in `EncryptionCounts`. -/

/-- R104, R179: INIT. -/
def Obligations.InitCompletes : Prop :=
  ∀ s : State, s.busy = true → s.cur = some .init →
    ∃ (c : Counters) (e : Engine), e.p = piP ∧ e.s = piS ∧
      exec .init s = .next
        { s with
          tv := true, eng := e,
          busy := false, done := true, cur := none, counters := c, draws := s.draws + 1 }

/-- R105, R179: ENCRYPT. -/
def Obligations.EncryptCompletes : Prop :=
  ∀ s : State, s.busy = true → s.cur = some .encrypt →
    ∃ (c : Counters) (e : Engine), e.p = s.eng.p ∧ e.s = s.eng.s ∧
      exec .encrypt s = .next
        { s with
          blk := bfEnc s.eng.p s.eng.s s.blk, eng := e,
          busy := false, done := true, cur := none, counters := c, draws := s.draws + 1 }

/-- R126, R123, R179: EXPKEY. -/
def Obligations.ExpKeyCompletes : Prop :=
  ∀ s : State, s.busy = true → s.cur = some .expKey →
    let x := regen (keymix (keyByte s.key) s.keylen.toNat s.eng)
    ∃ (c : Counters) (e : Engine), e.p = x.p ∧ e.s = x.s ∧
      exec .expKey s = .next
        { s with
          eng := e,
          busy := false, done := true, cur := none, counters := c, draws := s.draws + 1 }

/-- R127, R123, R179: EXPSALT. -/
def Obligations.ExpSaltCompletes : Prop :=
  ∀ s : State, s.busy = true → s.cur = some .expSalt →
    let x := regen (keymix (saltByte s.salt) 16 s.eng)
    ∃ (c : Counters) (e : Engine), e.p = x.p ∧ e.s = x.s ∧
      exec .expSalt s = .next
        { s with
          eng := e,
          busy := false, done := true, cur := none, counters := c, draws := s.draws + 1 }

/-- R128, R179: SEXPKEY. -/
def Obligations.SExpKeyCompletes : Prop :=
  ∀ s : State, s.busy = true → s.cur = some .sExpKey →
    let x := saltedExpand (saltByte s.salt) (keyByte s.key) s.keylen.toNat s.eng
    ∃ (c : Counters) (e : Engine), e.p = x.p ∧ e.s = x.s ∧
      exec .sExpKey s = .next
        { s with
          eng := e,
          busy := false, done := true, cur := none, counters := c, draws := s.draws + 1 }

/-- R129, R179: SETUP. -/
def Obligations.SetupCompletes : Prop :=
  ∀ s : State, s.busy = true → s.cur = some .setup →
    let x := eksSetup s.cost.toNat (saltByte s.salt) (keyByte s.key) s.keylen.toNat s.eng
    ∃ (c : Counters) (e : Engine), e.p = x.p ∧ e.s = x.s ∧
      exec .setup s = .next
        { s with
          tv := true, eng := e,
          busy := false, done := true, cur := none, counters := c, draws := s.draws + 1 }

/-- R152, R179: DIGEST. -/
def Obligations.DigestCompletes : Prop :=
  ∀ s : State, s.busy = true → s.cur = some .digest →
    ∃ (c : Counters) (e : Engine), e.p = s.eng.p ∧ e.s = s.eng.s ∧
      exec .digest s = .next
        { s with
          digest := bcDigest s.eng.p s.eng.s, eng := e,
          busy := false, done := true, cur := none, counters := c, draws := s.draws + 1 }

/-- R153, R179: BCRYPT; the tables it leaves are those of R125, and the digest is that of R151 over them. -/
def Obligations.BcryptCompletes : Prop :=
  ∀ s : State, s.busy = true → s.cur = some .bcrypt →
    let x := eksSetup s.cost.toNat (saltByte s.salt) (keyByte s.key) s.keylen.toNat s.eng
    ∃ (c : Counters) (e : Engine), e.p = x.p ∧ e.s = x.s ∧
      exec .bcrypt s = .next
        { s with
          tv := true, digest := bcDigest x.p x.s, eng := e,
          busy := false, done := true, cur := none, counters := c, draws := s.draws + 1 }

/-- R154, R179: ZEROIZE; COST and KEYLEN are kept. -/
def Obligations.ZeroizeCompletes : Prop :=
  ∀ s : State, s.busy = true → s.cur = some .zeroize →
    ∃ (c : Counters) (e : Engine), (∀ i : Fin 18, e.p[i] = 0) ∧ (∀ (k : Fin 4) (i : Fin 256), e.s[k][i] = 0) ∧
      exec .zeroize s = .next
        { s with
          tv := false, key := Vector.replicate 18 0, salt := Vector.replicate 4 0,
          blk := ⟨0, 0⟩, digest := Vector.replicate 6 0, eng := e,
          busy := false, done := true, cur := none, counters := c, draws := s.draws + 1 }

/-- R84: what the commands write. No command writes COST or KEYLEN, only ZEROIZE writes KEY and SALT, only ENCRYPT and
ZEROIZE write BLK, only DIGEST, BCRYPT and ZEROIZE write DIGEST, and ENCRYPT and DIGEST leave the tables as they are. -/
def Obligations.CommandWriteSets : Prop :=
  ∀ (i : Instr) (s t : State), exec i s = .next t →
    t.cost = s.cost ∧ t.keylen = s.keylen ∧
    (i ≠ .zeroize → t.key = s.key ∧ t.salt = s.salt) ∧
    (i ≠ .encrypt → i ≠ .zeroize → t.blk = s.blk) ∧
    (i ≠ .digest → i ≠ .bcrypt → i ≠ .zeroize → t.digest = s.digest) ∧
    (i = .encrypt ∨ i = .digest → t.eng.p = s.eng.p ∧ t.eng.s = s.eng.s) ∧
    (t.tv ≠ s.tv → i = .init ∨ i = .setup ∨ i = .bcrypt ∨ i = .zeroize) ∧
    t.resetPin = s.resetPin ∧ t.events = s.events ∧ t.reads = s.reads

/-! ### The cipher, the streams and the key schedule -/

/-- R100: the F-function on the bytes of a word, most significant first, with the rule's example. -/
def Obligations.FFunctionFormula : Prop :=
  (∀ (S : SBoxes) (x : Word),
    fFun S x =
      ((S[0][Fin.ofNat 256 (x.toNat / 2 ^ 24)] + S[1][Fin.ofNat 256 (x.toNat / 2 ^ 16)])
        ^^^ S[2][Fin.ofNat 256 (x.toNat / 2 ^ 8)]) + S[3][Fin.ofNat 256 x.toNat]) ∧
  fFun piS 0x243F6A88 = 0xDB2F9C4E

/-- R103: the form without swaps is the same function. -/
def Obligations.InPlaceEncryptionEqual : Prop :=
  ∀ (p : PArray) (s : SBoxes) (b : Block), bfEnc p s b = Spec.inPlaceEnc p s b

/-- R120: one word of a stream, and the closed form of the words from position 0. -/
def Obligations.StreamClosedForm : Prop :=
  ∀ (buf : Nat → Byte) (len : Nat), 1 ≤ len →
    (∀ pos, pos ≤ len →
      (stream buf len pos).1 = Spec.cyclicWord buf len pos ∧
      (stream buf len pos).2 % len = (pos + 4) % len ∧
      1 ≤ (stream buf len pos).2 ∧ (stream buf len pos).2 ≤ len) ∧
    ∀ n, (stream buf len (Spec.streamPos buf len n)).1 = Spec.cyclicWord buf len (4 * n)

/-- R121: the key mix XORs stream word i into P[i], from position 0 on every call, and changes nothing else. -/
def Obligations.KeymixXorsStream : Prop :=
  ∀ (buf : Nat → Byte) (len : Nat) (e : Engine), 1 ≤ len → len ≤ 72 →
    (∀ i : Fin 18, (keymix buf len e).p[i] = e.p[i] ^^^ Spec.cyclicWord buf len (4 * i.val)) ∧
    keymix buf len e = { e with p := (keymix buf len e).p, kpos := (keymix buf len e).kpos }

/-- R122: a regeneration pass is 521 encryptions in order, each overwriting the next two table words. -/
def Obligations.RegenerationOrder : Prop :=
  ∀ e : Engine, regen e = Spec.pass (fun _ => ⟨0, 0⟩) 521 { e with rb := ⟨0, 0⟩ } ∧ (regen e).encs = e.encs + 521

/-- R130: before encryption n of the salted pass the running block is XORed with the first half of the salt for even n and
the second for odd n, through both phases. -/
def Obligations.SaltHalvesAlternate : Prop :=
  ∀ (salt : SaltRegs) (key : Nat → Byte) (len : Nat) (e : Engine), 1 ≤ len → len ≤ 72 →
    let mask : Nat → Block := fun n => if n % 2 = 0 then ⟨salt[0], salt[1]⟩ else ⟨salt[2], salt[3]⟩
    let a := saltedExpand (saltByte salt) key len e
    let b := Spec.pass mask 521 { keymix key len e with rb := ⟨0, 0⟩ }
    a.p = b.p ∧ a.s = b.s ∧ a.rb = b.rb ∧ a.encs = b.encs

/-- R131: with an all-zero salt the salted expansion is the unsalted one. -/
def Obligations.ZeroSaltIsUnsalted : Prop :=
  ∀ (salt key : Nat → Byte) (len : Nat) (e : Engine), (∀ n, n < 16 → salt n = 0) →
    (saltedExpand salt key len e).p = (expand key len e).p ∧ (saltedExpand salt key len e).s = (expand key len e).s

/-- R132: buffers with the same first 72 stream bytes give the same tables, in every routine. -/
def Obligations.KeyPeriodIdentity : Prop :=
  ∀ (buf1 buf2 salt : Nat → Byte) (len1 len2 cost : Nat) (e : Engine),
    1 ≤ len1 → len1 ≤ 72 → 1 ≤ len2 → len2 ≤ 72 →
    (∀ n, n < 72 → buf1 (n % len1) = buf2 (n % len2)) →
    (expand buf1 len1 e).p = (expand buf2 len2 e).p ∧ (expand buf1 len1 e).s = (expand buf2 len2 e).s ∧
    (saltedExpand salt buf1 len1 e).p = (saltedExpand salt buf2 len2 e).p ∧
    (saltedExpand salt buf1 len1 e).s = (saltedExpand salt buf2 len2 e).s ∧
    (eksSetup cost salt buf1 len1 e).p = (eksSetup cost salt buf2 len2 e).p ∧
    (eksSetup cost salt buf1 len1 e).s = (eksSetup cost salt buf2 len2 e).s

/-- R125: the schedule depends on the cost, the 16 salt bytes and the key bytes below the length, not on the tables before
the call. -/
def Obligations.ScheduleDependsOnInputsOnly : Prop :=
  ∀ (salt salt' key key' : Nat → Byte) (cost len : Nat) (e e' : Engine), 1 ≤ len → len ≤ 72 →
    (∀ n, n < 16 → salt n = salt' n) → (∀ n, n < len → key n = key' n) →
    (eksSetup cost salt key len e).p = (eksSetup cost salt' key' len e').p ∧
    (eksSetup cost salt key len e).s = (eksSetup cost salt' key' len e').s

/-- R150: the magic words are the ASCII bytes of the string, big-endian. -/
def Obligations.MagicWords : Prop :=
  let bs := ("OrpheanBeholderScryDoubt".toList).map (fun c => BitVec.ofNat 8 c.toNat)
  bs.length = 24 ∧ ∀ j : Fin 6, magic[j] = packedWord bs j.val

/-- R151: each of the three digest blocks is its magic block encrypted 64 times, independently; 192 encryptions in all. -/
def Obligations.DigestBlocksIndependent : Prop :=
  ∀ (p : PArray) (s : SBoxes),
    (∀ b : Fin 3,
      let x := Spec.encIter p s 64 ⟨magic[Fin.ofNat 6 (2 * b.val)], magic[Fin.ofNat 6 (2 * b.val + 1)]⟩
      (bcDigest p s)[Fin.ofNat 6 (2 * b.val)] = x.l ∧ (bcDigest p s)[Fin.ofNat 6 (2 * b.val + 1)] = x.r) ∧
    (bcDigestCounted p s).2 = 192

/-- R207: the number of `BF_ENC` calls each command makes.
`encs` is no register of the core: it is the model's own count (notes/assumptions/11.md). -/
def Obligations.EncryptionCounts : Prop :=
  ∀ (i : Instr) (s t : State), s.busy = true → s.cur = some i → exec i s = .next t →
    t.eng.encs = s.eng.encs + Spec.encryptions i s.cost.toNat

/-- R129: SETUP equals `INIT; SEXPKEY; (EXPKEY; EXPSALT) × 2^COST`, issued as commands.
`encs` is the model's own count (notes/assumptions/11.md). -/
def Obligations.SetupEqualsCommandSequence : Prop :=
  ∀ s : State, s.resetPin = false → s.busy = false → Spec.ready .setup s →
    ∃ a b, run 2 { s with events := Spec.issued .setup } = .next a ∧
      run (4 + 4 * 2 ^ s.cost.toNat)
        { s with events := Spec.issued .init ++ Spec.issued .sExpKey ++
                   (List.replicate (2 ^ s.cost.toNat) (Spec.issued .expKey ++ Spec.issued .expSalt)).flatten }
        = .next b ∧
      a.eng.p = b.eng.p ∧ a.eng.s = b.eng.s ∧ a.eng.encs = b.eng.encs ∧
      a.tv = true ∧ b.tv = true ∧ b.events = [] ∧ b.history = s.history ∧
      b.key = s.key ∧ b.salt = s.salt ∧ b.blk = s.blk ∧ b.digest = s.digest

/-- R153: BCRYPT equals SETUP then DIGEST.
`encs` is the model's own count (notes/assumptions/11.md). -/
def Obligations.BcryptEqualsSetupThenDigest : Prop :=
  ∀ s : State, s.resetPin = false → s.busy = false → Spec.ready .bcrypt s →
    ∃ a b, run 2 { s with events := Spec.issued .bcrypt } = .next a ∧
      run 4 { s with events := Spec.issued .setup ++ Spec.issued .digest } = .next b ∧
      a.eng.p = b.eng.p ∧ a.eng.s = b.eng.s ∧ a.eng.encs = b.eng.encs ∧ a.tv = b.tv ∧ a.digest = b.digest

/-- R153, R28: two BCRYPTs with the same COST, KEYLEN, SALT and first KEYLEN key bytes give the same DIGEST, whatever the
tables held and whatever stands in KEY from KEYLEN on. -/
def Obligations.BcryptDeterminedByInputs : Prop :=
  ∀ s s' t t' : State, s.busy = true → s.cur = some .bcrypt → s'.busy = true → s'.cur = some .bcrypt →
    s.cost = s'.cost → s.keylen = s'.keylen → s.salt = s'.salt →
    1 ≤ s.keylen.toNat → s.keylen.toNat ≤ 72 →
    (∀ n, n < s.keylen.toNat → keyByte s.key n = keyByte s'.key n) →
    exec .bcrypt s = .next t → exec .bcrypt s' = .next t' →
    t.digest = t'.digest ∧ t.eng.p = t'.eng.p ∧ t.eng.s = t'.eng.s

/-- R89, R28: LOADKEY of n bytes leaves KEYLEN = n and key byte m equal to the m-th of them, writes 0x00 at the positions
from n to the end of the last word it writes, keeps the key words after that one, and changes nothing else. -/
def Obligations.LoadKeyWritesKeyBytes : Prop :=
  ∀ (s : State) (bs : List Byte), s.resetPin = false → s.busy = false → 1 ≤ bs.length → bs.length ≤ 72 →
    s.events = loadKey bs →
    ∃ t, run (loadKey bs).length s = .next t ∧
      t = { s with events := [], key := t.key, keylen := t.keylen } ∧ t.keylen.toNat = bs.length ∧
      (∀ m, m < bs.length → keyByte t.key m = bs.getD m 0) ∧
      (∀ m, bs.length ≤ m → m < 4 * ((bs.length + 3) / 4) → keyByte t.key m = 0) ∧
      (∀ j : Fin 18, (bs.length + 3) / 4 ≤ j.val → t.key[j] = s.key[j])

/-! ### The whole machine -/

/-- A CTRL write of a command's word runs that command's meaning (R170), at the state the write has been taken from. -/
def Obligations.CommandWriteRunsMeaning : Prop :=
  ∀ (s : State) (off : Offset) (v : Word) (i : Instr) (rest : List Event),
    s.resetPin = false → s.busy = false → regAt off = .ctrl → decode v = .ok i → s.events = .write off v :: rest →
    step s = exec i { s with events := rest }

/-- The engine's turn runs the meaning of the command in progress (R179).
That the engine moves where no event waits is the model's choice, its form of R208's fairness (notes/assumptions/2.md). -/
def Obligations.EngineTurnRunsMeaning : Prop :=
  ∀ (s : State) (i : Instr), s.busy = true → s.cur = some i →
    (s.events = [] → step s = exec i s) ∧
    (∀ rest, s.events = .engine :: rest → step s = exec i { s with events := rest })

/-- No step faults or is refused (spec/93_implementation_defined.md: no behaviour is `stuck`, none is `refuse`). -/
def Obligations.EveryStepAnswersNext : Prop := ∀ s : State, ∃ t, step s = .next t

/-- R24, R34, R170, R177, R200: every step keeps the invariant of the state.
Its clause that an error shown is the code of the newest history entry is the model's choice (the modelling note of
spec/60_exceptions.md, notes/assumptions/11.md). -/
def Obligations.StepKeepsInvariant : Prop :=
  ∀ s t : State, s.Inv → step s = .next t → t.Inv

/-- The state after reset meets the invariant. -/
def Obligations.ResetMeetsInvariant : Prop := State.reset.Inv

/-- R200 with R21, R22, U2, U3: while TV = 0 nothing a host can see depends on the tables, and nothing ever depends on the
engine's internal registers: states no host can tell apart step to such states.
A read of a table while BUSY draws one free value in both states (notes/assumptions/5.md): the statement says nothing of what
such a read may let through. -/
def Obligations.UnsetTablesInvisible : Prop :=
  ∀ s t s' t' : State, s.Inv → hostEquiv s t → step s = .next s' → step t = .next t' → hostEquiv s' t'

/-- R200: the values the rule gives, right after reset. Nothing is said of the tables and the registers the rule leaves
unspecified; their values in `State.reset` are the model's (notes/assumptions/1.md). -/
def Obligations.ResetValues : Prop :=
  let s := State.reset
  s.busy = false ∧ s.done = false ∧ s.tv = false ∧ s.err = .none ∧ s.lastOp = 0 ∧ statusWord s = 0 ∧
    s.cost = 0 ∧ s.keylen = 0 ∧ (∀ j : Fin 18, s.key[j] = 0) ∧ (∀ j : Fin 4, s.salt[j] = 0) ∧
    s.blk.l = 0 ∧ s.blk.r = 0 ∧ (∀ j : Fin 6, s.digest[j] = 0) ∧ s.cur = none ∧
    busyOutput s = false ∧ doneOutput s = false

/-- R201, R183: reset overrides everything: the in-flight command is abandoned and every register takes the value of R200;
the tables, the internal registers and the counters are left unspecified.
That the waiting events, the replies and the history survive is the model's choice (notes/assumptions/11.md). -/
def Obligations.ResetOverridesEverything : Prop :=
  ∀ (s : State) (rest : List Event), s.events = .assertReset :: rest →
    ∃ (e : Engine) (c : Counters) (d : Nat),
      step s = .next { eng := e, counters := c, tv := false, busy := false, done := false, err := .none, lastOp := 0,
                       cost := 0, keylen := 0, key := Vector.replicate 18 0, salt := Vector.replicate 4 0, blk := ⟨0, 0⟩,
                       digest := Vector.replicate 6 0, cur := none, resetPin := true, events := rest, reads := s.reads,
                       history := s.history, draws := d }

/-- R202: while reset is asserted a read returns 0 and a write is ignored with no error.
R200: the registers it gives a value keep it after the release; that the release changes the input alone, and so keeps the
tables, the datapath registers and the counters too, is the model's inference (DEDUCED, notes/assumptions/13.md). -/
def Obligations.AssertedResetIgnoresHost : Prop :=
  ∀ (s : State) (rest : List Event), s.resetPin = true →
    (∀ off, s.events = .read off :: rest →
      step s = .next { s with events := rest, reads := ⟨off, 0⟩ :: s.reads }) ∧
    (∀ off v, s.events = .write off v :: rest → step s = .next { s with events := rest }) ∧
    (s.events = .releaseReset :: rest → step s = .next { s with events := rest, resetPin := false })

/-- R190, R60: a read, the engine's turn while idle and an idle core with nothing waiting change no register. -/
def Obligations.ReadsAndIdleTurnsChangeNothing : Prop :=
  ∀ s t : State, step s = .next t →
    ((∃ off rest, s.events = .read off :: rest) ∨
      (s.busy = false ∧ (s.events = [] ∨ ∃ rest, s.events = .engine :: rest))) →
    t = { s with events := t.events, reads := t.reads, draws := t.draws } ∧ (s.events = [] → t = s)

/-- R65, R177, R176, R179, D28: while a command runs, no step but its completion and a reset changes an input register, the
tables, TV, the digest, CUR or LASTOP.
That the tables and the datapath registers (`eng`) hold until the completion is the model's inference from R179, R34 and D28,
its completion being one step (DEDUCED, notes/assumptions/4.md). -/
def Obligations.InputsFrozenWhileBusy : Prop :=
  ∀ s t : State, s.busy = true → t.busy = true → step s = .next t →
    t.cost = s.cost ∧ t.keylen = s.keylen ∧ t.key = s.key ∧ t.salt = s.salt ∧ t.blk = s.blk ∧ t.digest = s.digest ∧
    t.eng = s.eng ∧ t.tv = s.tv ∧ t.cur = s.cur ∧ t.lastOp = s.lastOp

/-- R65, R179, D28: what a command leaves is fixed at its acceptance: any host accesses between the acceptance and the
completion, in any number, leave every register the command leaves without them. -/
def Obligations.ResultFixedAtAcceptance : Prop :=
  ∀ (s : State) (i : Instr) (accesses : List Event), s.resetPin = false → s.busy = false → Spec.ready i s →
    (∀ e ∈ accesses, (∃ off, e = .read off) ∨ (∃ off v, e = .write off v)) →
    ∃ a b, run 2 { s with events := [cmd i, .engine] } = .next a ∧
      run (2 + accesses.length) { s with events := cmd i :: accesses ++ [.engine] } = .next b ∧
      a.eng.p = b.eng.p ∧ a.eng.s = b.eng.s ∧ a.tv = b.tv ∧ a.blk = b.blk ∧ a.digest = b.digest ∧
      a.key = b.key ∧ a.salt = b.salt ∧
      a.cost = b.cost ∧ a.keylen = b.keylen ∧ a.lastOp = b.lastOp ∧
      b.busy = false ∧ b.done = true ∧ b.cur = none

/-- R208: the engine makes progress: once the waiting events are over, one more step leaves no command in progress.
That the engine moves where no event waits is the model's choice, its form of R208's fairness (notes/assumptions/2.md). -/
def Obligations.CommandsComplete : Prop :=
  ∀ s : State, s.Inv → ∃ t, run (s.events.length + 1) s = .next t ∧ t.busy = false ∧ t.events = [] ∧ t.Inv

/-- The modelling note of spec/60_exceptions.md: no step clears an entry of the history. -/
def Obligations.HistoryNeverCleared : Prop :=
  ∀ s t : State, step s = .next t →
    t.history = s.history ∨ ∃ r, t.history = r :: s.history ∧ t.err = r.code
end

