-- ==== Sys2Proof/Laws/Decode.lean ====
section
/-! SUPPORT. The fields of a command word, and the opcode map as a one-to-one table. -/

namespace Sys2Proof

@[simp] theorem opField_encode (i : Instr) : opField (encode i) = opcode i := by cases i <;> decide

@[simp] theorem rsvField_encode (i : Instr) : rsvField (encode i) = 0 := by cases i <;> decide

/-- Each opcode of the map names the one command that has it. -/
theorem decodeOp_eq_some {op : BitVec 4} {i : Instr} : decodeOp op = some i ↔ op = opcode i := by
  revert op; cases i <;> decide

theorem decodeOp_eq_none {op : BitVec 4} : decodeOp op = none ↔ op = 0 ∨ 9 < op.toNat := by
  revert op; decide

/-- A word with a zero RSV field is its OP field widened. -/
theorem eq_opField_of_rsvField {v : Word} (h : rsvField v = 0) : v = (opField v).setWidth 32 := by
  apply BitVec.eq_of_toNat_eq
  have h : (rsvField v).toNat = 0 := by rw [h]; rfl
  simp only [rsvField, opField, BitVec.extractLsb'_toNat, BitVec.toNat_setWidth, Nat.shiftRight_eq_div_pow] at h ⊢
  have := v.isLt
  omega

end Sys2Proof
end

