-- ==== Sys2Proof/Laws/State.lean ====
section
/-! SUPPORT. One lemma per field per update: what each shared operation and each command's effect does to each field of the state. -/

namespace Sys2Proof.Machine

/-! `reject` -/

@[simp] theorem reject_eng (c : Err) (w : Word) (s : State) : (reject c w s).eng = s.eng := rfl
@[simp] theorem reject_counters (c : Err) (w : Word) (s : State) : (reject c w s).counters = s.counters := rfl
@[simp] theorem reject_tv (c : Err) (w : Word) (s : State) : (reject c w s).tv = s.tv := rfl
@[simp] theorem reject_busy (c : Err) (w : Word) (s : State) : (reject c w s).busy = s.busy := rfl
@[simp] theorem reject_done (c : Err) (w : Word) (s : State) : (reject c w s).done = true := rfl
@[simp] theorem reject_err (c : Err) (w : Word) (s : State) : (reject c w s).err = c := rfl
@[simp] theorem reject_lastOp (c : Err) (w : Word) (s : State) : (reject c w s).lastOp = opField w := rfl
@[simp] theorem reject_cost (c : Err) (w : Word) (s : State) : (reject c w s).cost = s.cost := rfl
@[simp] theorem reject_keylen (c : Err) (w : Word) (s : State) : (reject c w s).keylen = s.keylen := rfl
@[simp] theorem reject_key (c : Err) (w : Word) (s : State) : (reject c w s).key = s.key := rfl
@[simp] theorem reject_salt (c : Err) (w : Word) (s : State) : (reject c w s).salt = s.salt := rfl
@[simp] theorem reject_blk (c : Err) (w : Word) (s : State) : (reject c w s).blk = s.blk := rfl
@[simp] theorem reject_digest (c : Err) (w : Word) (s : State) : (reject c w s).digest = s.digest := rfl
@[simp] theorem reject_cur (c : Err) (w : Word) (s : State) : (reject c w s).cur = s.cur := rfl
@[simp] theorem reject_resetPin (c : Err) (w : Word) (s : State) : (reject c w s).resetPin = s.resetPin := rfl
@[simp] theorem reject_events (c : Err) (w : Word) (s : State) : (reject c w s).events = s.events := rfl
@[simp] theorem reject_reads (c : Err) (w : Word) (s : State) : (reject c w s).reads = s.reads := rfl
@[simp] theorem reject_history (c : Err) (w : Word) (s : State) : (reject c w s).history = .rejected c w :: s.history := rfl
@[simp] theorem reject_draws (c : Err) (w : Word) (s : State) : (reject c w s).draws = s.draws := rfl

/-! `accept` -/

@[simp] theorem accept_eng (i : Instr) (s : State) : (accept i s).eng = s.eng := rfl
@[simp] theorem accept_counters (i : Instr) (s : State) : (accept i s).counters = s.counters := rfl
@[simp] theorem accept_tv (i : Instr) (s : State) : (accept i s).tv = s.tv := rfl
@[simp] theorem accept_busy (i : Instr) (s : State) : (accept i s).busy = true := rfl
@[simp] theorem accept_done (i : Instr) (s : State) : (accept i s).done = false := rfl
@[simp] theorem accept_err (i : Instr) (s : State) : (accept i s).err = .none := rfl
@[simp] theorem accept_lastOp (i : Instr) (s : State) : (accept i s).lastOp = opcode i := rfl
@[simp] theorem accept_cost (i : Instr) (s : State) : (accept i s).cost = s.cost := rfl
@[simp] theorem accept_keylen (i : Instr) (s : State) : (accept i s).keylen = s.keylen := rfl
@[simp] theorem accept_key (i : Instr) (s : State) : (accept i s).key = s.key := rfl
@[simp] theorem accept_salt (i : Instr) (s : State) : (accept i s).salt = s.salt := rfl
@[simp] theorem accept_blk (i : Instr) (s : State) : (accept i s).blk = s.blk := rfl
@[simp] theorem accept_digest (i : Instr) (s : State) : (accept i s).digest = s.digest := rfl
@[simp] theorem accept_cur (i : Instr) (s : State) : (accept i s).cur = some i := rfl
@[simp] theorem accept_resetPin (i : Instr) (s : State) : (accept i s).resetPin = s.resetPin := rfl
@[simp] theorem accept_events (i : Instr) (s : State) : (accept i s).events = s.events := rfl
@[simp] theorem accept_reads (i : Instr) (s : State) : (accept i s).reads = s.reads := rfl
@[simp] theorem accept_history (i : Instr) (s : State) : (accept i s).history = s.history := rfl
@[simp] theorem accept_draws (i : Instr) (s : State) : (accept i s).draws = s.draws := rfl

/-! `dropWrite` -/

@[simp] theorem dropWrite_eng (r : Reg) (v : Word) (s : State) : (dropWrite r v s).eng = s.eng := rfl
@[simp] theorem dropWrite_counters (r : Reg) (v : Word) (s : State) : (dropWrite r v s).counters = s.counters := rfl
@[simp] theorem dropWrite_tv (r : Reg) (v : Word) (s : State) : (dropWrite r v s).tv = s.tv := rfl
@[simp] theorem dropWrite_busy (r : Reg) (v : Word) (s : State) : (dropWrite r v s).busy = s.busy := rfl
@[simp] theorem dropWrite_done (r : Reg) (v : Word) (s : State) : (dropWrite r v s).done = s.done := rfl
@[simp] theorem dropWrite_err (r : Reg) (v : Word) (s : State) : (dropWrite r v s).err = .busy := rfl
@[simp] theorem dropWrite_lastOp (r : Reg) (v : Word) (s : State) : (dropWrite r v s).lastOp = s.lastOp := rfl
@[simp] theorem dropWrite_cost (r : Reg) (v : Word) (s : State) : (dropWrite r v s).cost = s.cost := rfl
@[simp] theorem dropWrite_keylen (r : Reg) (v : Word) (s : State) : (dropWrite r v s).keylen = s.keylen := rfl
@[simp] theorem dropWrite_key (r : Reg) (v : Word) (s : State) : (dropWrite r v s).key = s.key := rfl
@[simp] theorem dropWrite_salt (r : Reg) (v : Word) (s : State) : (dropWrite r v s).salt = s.salt := rfl
@[simp] theorem dropWrite_blk (r : Reg) (v : Word) (s : State) : (dropWrite r v s).blk = s.blk := rfl
@[simp] theorem dropWrite_digest (r : Reg) (v : Word) (s : State) : (dropWrite r v s).digest = s.digest := rfl
@[simp] theorem dropWrite_cur (r : Reg) (v : Word) (s : State) : (dropWrite r v s).cur = s.cur := rfl
@[simp] theorem dropWrite_resetPin (r : Reg) (v : Word) (s : State) : (dropWrite r v s).resetPin = s.resetPin := rfl
@[simp] theorem dropWrite_events (r : Reg) (v : Word) (s : State) : (dropWrite r v s).events = s.events := rfl
@[simp] theorem dropWrite_reads (r : Reg) (v : Word) (s : State) : (dropWrite r v s).reads = s.reads := rfl
@[simp] theorem dropWrite_history (r : Reg) (v : Word) (s : State) : (dropWrite r v s).history = .dropped r v :: s.history := rfl
@[simp] theorem dropWrite_draws (r : Reg) (v : Word) (s : State) : (dropWrite r v s).draws = s.draws := rfl

/-! `complete` -/

@[simp] theorem complete_eng (s : State) :
    (complete s).eng = { s.eng with rb := (Config.freeEngine s.draws).rb, kpos := (Config.freeEngine s.draws).kpos, spos := (Config.freeEngine s.draws).spos } := rfl
@[simp] theorem complete_counters (s : State) : (complete s).counters = Config.freeCounters s.draws := rfl
@[simp] theorem complete_tv (s : State) : (complete s).tv = s.tv := rfl
@[simp] theorem complete_busy (s : State) : (complete s).busy = false := rfl
@[simp] theorem complete_done (s : State) : (complete s).done = true := rfl
@[simp] theorem complete_err (s : State) : (complete s).err = s.err := rfl
@[simp] theorem complete_lastOp (s : State) : (complete s).lastOp = s.lastOp := rfl
@[simp] theorem complete_cost (s : State) : (complete s).cost = s.cost := rfl
@[simp] theorem complete_keylen (s : State) : (complete s).keylen = s.keylen := rfl
@[simp] theorem complete_key (s : State) : (complete s).key = s.key := rfl
@[simp] theorem complete_salt (s : State) : (complete s).salt = s.salt := rfl
@[simp] theorem complete_blk (s : State) : (complete s).blk = s.blk := rfl
@[simp] theorem complete_digest (s : State) : (complete s).digest = s.digest := rfl
@[simp] theorem complete_cur (s : State) : (complete s).cur = none := rfl
@[simp] theorem complete_resetPin (s : State) : (complete s).resetPin = s.resetPin := rfl
@[simp] theorem complete_events (s : State) : (complete s).events = s.events := rfl
@[simp] theorem complete_reads (s : State) : (complete s).reads = s.reads := rfl
@[simp] theorem complete_history (s : State) : (complete s).history = s.history := rfl
@[simp] theorem complete_draws (s : State) : (complete s).draws = s.draws + 1 := rfl

/-! `assertReset` -/

@[simp] theorem assertReset_eng (s : State) : (assertReset s).eng = Config.freeEngine s.draws := rfl
@[simp] theorem assertReset_counters (s : State) : (assertReset s).counters = Config.freeCounters s.draws := rfl
@[simp] theorem assertReset_tv (s : State) : (assertReset s).tv = false := rfl
@[simp] theorem assertReset_busy (s : State) : (assertReset s).busy = false := rfl
@[simp] theorem assertReset_done (s : State) : (assertReset s).done = false := rfl
@[simp] theorem assertReset_err (s : State) : (assertReset s).err = .none := rfl
@[simp] theorem assertReset_lastOp (s : State) : (assertReset s).lastOp = 0 := rfl
@[simp] theorem assertReset_cost (s : State) : (assertReset s).cost = 0 := rfl
@[simp] theorem assertReset_keylen (s : State) : (assertReset s).keylen = 0 := rfl
@[simp] theorem assertReset_key (s : State) : (assertReset s).key = Vector.replicate 18 0 := rfl
@[simp] theorem assertReset_salt (s : State) : (assertReset s).salt = Vector.replicate 4 0 := rfl
@[simp] theorem assertReset_blk (s : State) : (assertReset s).blk = ⟨0, 0⟩ := rfl
@[simp] theorem assertReset_digest (s : State) : (assertReset s).digest = Vector.replicate 6 0 := rfl
@[simp] theorem assertReset_cur (s : State) : (assertReset s).cur = none := rfl
@[simp] theorem assertReset_resetPin (s : State) : (assertReset s).resetPin = true := rfl
@[simp] theorem assertReset_events (s : State) : (assertReset s).events = s.events := rfl
@[simp] theorem assertReset_reads (s : State) : (assertReset s).reads = s.reads := rfl
@[simp] theorem assertReset_history (s : State) : (assertReset s).history = s.history := rfl
@[simp] theorem assertReset_draws (s : State) : (assertReset s).draws = s.draws + 1 := rfl

/-! `releaseReset` -/

@[simp] theorem releaseReset_eng (s : State) : (releaseReset s).eng = s.eng := rfl
@[simp] theorem releaseReset_counters (s : State) : (releaseReset s).counters = s.counters := rfl
@[simp] theorem releaseReset_tv (s : State) : (releaseReset s).tv = s.tv := rfl
@[simp] theorem releaseReset_busy (s : State) : (releaseReset s).busy = s.busy := rfl
@[simp] theorem releaseReset_done (s : State) : (releaseReset s).done = s.done := rfl
@[simp] theorem releaseReset_err (s : State) : (releaseReset s).err = s.err := rfl
@[simp] theorem releaseReset_lastOp (s : State) : (releaseReset s).lastOp = s.lastOp := rfl
@[simp] theorem releaseReset_cost (s : State) : (releaseReset s).cost = s.cost := rfl
@[simp] theorem releaseReset_keylen (s : State) : (releaseReset s).keylen = s.keylen := rfl
@[simp] theorem releaseReset_key (s : State) : (releaseReset s).key = s.key := rfl
@[simp] theorem releaseReset_salt (s : State) : (releaseReset s).salt = s.salt := rfl
@[simp] theorem releaseReset_blk (s : State) : (releaseReset s).blk = s.blk := rfl
@[simp] theorem releaseReset_digest (s : State) : (releaseReset s).digest = s.digest := rfl
@[simp] theorem releaseReset_cur (s : State) : (releaseReset s).cur = s.cur := rfl
@[simp] theorem releaseReset_resetPin (s : State) : (releaseReset s).resetPin = false := rfl
@[simp] theorem releaseReset_events (s : State) : (releaseReset s).events = s.events := rfl
@[simp] theorem releaseReset_reads (s : State) : (releaseReset s).reads = s.reads := rfl
@[simp] theorem releaseReset_history (s : State) : (releaseReset s).history = s.history := rfl
@[simp] theorem releaseReset_draws (s : State) : (releaseReset s).draws = s.draws := rfl

/-! `withCommandWord` -/

@[simp] theorem withCommandWord_eng (v : Word) (s : State) : (withCommandWord v s).eng = s.eng := rfl
@[simp] theorem withCommandWord_counters (v : Word) (s : State) : (withCommandWord v s).counters = s.counters := rfl
@[simp] theorem withCommandWord_tv (v : Word) (s : State) : (withCommandWord v s).tv = s.tv := rfl
@[simp] theorem withCommandWord_busy (v : Word) (s : State) : (withCommandWord v s).busy = false := rfl
@[simp] theorem withCommandWord_done (v : Word) (s : State) : (withCommandWord v s).done = s.done := rfl
@[simp] theorem withCommandWord_err (v : Word) (s : State) : (withCommandWord v s).err = s.err := rfl
@[simp] theorem withCommandWord_lastOp (v : Word) (s : State) : (withCommandWord v s).lastOp = s.lastOp := rfl
@[simp] theorem withCommandWord_cost (v : Word) (s : State) : (withCommandWord v s).cost = s.cost := rfl
@[simp] theorem withCommandWord_keylen (v : Word) (s : State) : (withCommandWord v s).keylen = s.keylen := rfl
@[simp] theorem withCommandWord_key (v : Word) (s : State) : (withCommandWord v s).key = s.key := rfl
@[simp] theorem withCommandWord_salt (v : Word) (s : State) : (withCommandWord v s).salt = s.salt := rfl
@[simp] theorem withCommandWord_blk (v : Word) (s : State) : (withCommandWord v s).blk = s.blk := rfl
@[simp] theorem withCommandWord_digest (v : Word) (s : State) : (withCommandWord v s).digest = s.digest := rfl
@[simp] theorem withCommandWord_cur (v : Word) (s : State) : (withCommandWord v s).cur = none := rfl
@[simp] theorem withCommandWord_resetPin (v : Word) (s : State) : (withCommandWord v s).resetPin = false := rfl
@[simp] theorem withCommandWord_events (v : Word) (s : State) :
    (withCommandWord v s).events = .write (offsetOf .ctrl) v :: s.events := rfl
@[simp] theorem withCommandWord_reads (v : Word) (s : State) : (withCommandWord v s).reads = s.reads := rfl
@[simp] theorem withCommandWord_history (v : Word) (s : State) : (withCommandWord v s).history = s.history := rfl
@[simp] theorem withCommandWord_draws (v : Word) (s : State) : (withCommandWord v s).draws = s.draws := rfl

/-! `initEffect` -/

@[simp] theorem initEffect_eng (s : State) :
    (initEffect s).eng = { s.eng with p := piP, s := piS } := rfl
@[simp] theorem initEffect_counters (s : State) : (initEffect s).counters = s.counters := rfl
@[simp] theorem initEffect_tv (s : State) : (initEffect s).tv = true := rfl
@[simp] theorem initEffect_busy (s : State) : (initEffect s).busy = s.busy := rfl
@[simp] theorem initEffect_done (s : State) : (initEffect s).done = s.done := rfl
@[simp] theorem initEffect_err (s : State) : (initEffect s).err = s.err := rfl
@[simp] theorem initEffect_lastOp (s : State) : (initEffect s).lastOp = s.lastOp := rfl
@[simp] theorem initEffect_cost (s : State) : (initEffect s).cost = s.cost := rfl
@[simp] theorem initEffect_keylen (s : State) : (initEffect s).keylen = s.keylen := rfl
@[simp] theorem initEffect_key (s : State) : (initEffect s).key = s.key := rfl
@[simp] theorem initEffect_salt (s : State) : (initEffect s).salt = s.salt := rfl
@[simp] theorem initEffect_blk (s : State) : (initEffect s).blk = s.blk := rfl
@[simp] theorem initEffect_digest (s : State) : (initEffect s).digest = s.digest := rfl
@[simp] theorem initEffect_cur (s : State) : (initEffect s).cur = s.cur := rfl
@[simp] theorem initEffect_resetPin (s : State) : (initEffect s).resetPin = s.resetPin := rfl
@[simp] theorem initEffect_events (s : State) : (initEffect s).events = s.events := rfl
@[simp] theorem initEffect_reads (s : State) : (initEffect s).reads = s.reads := rfl
@[simp] theorem initEffect_history (s : State) : (initEffect s).history = s.history := rfl
@[simp] theorem initEffect_draws (s : State) : (initEffect s).draws = s.draws := rfl

/-! `encryptEffect` -/

@[simp] theorem encryptEffect_eng (s : State) :
    (encryptEffect s).eng = { s.eng with encs := s.eng.encs + 1 } := rfl
@[simp] theorem encryptEffect_counters (s : State) : (encryptEffect s).counters = s.counters := rfl
@[simp] theorem encryptEffect_tv (s : State) : (encryptEffect s).tv = s.tv := rfl
@[simp] theorem encryptEffect_busy (s : State) : (encryptEffect s).busy = s.busy := rfl
@[simp] theorem encryptEffect_done (s : State) : (encryptEffect s).done = s.done := rfl
@[simp] theorem encryptEffect_err (s : State) : (encryptEffect s).err = s.err := rfl
@[simp] theorem encryptEffect_lastOp (s : State) : (encryptEffect s).lastOp = s.lastOp := rfl
@[simp] theorem encryptEffect_cost (s : State) : (encryptEffect s).cost = s.cost := rfl
@[simp] theorem encryptEffect_keylen (s : State) : (encryptEffect s).keylen = s.keylen := rfl
@[simp] theorem encryptEffect_key (s : State) : (encryptEffect s).key = s.key := rfl
@[simp] theorem encryptEffect_salt (s : State) : (encryptEffect s).salt = s.salt := rfl
@[simp] theorem encryptEffect_blk (s : State) : (encryptEffect s).blk = bfEnc s.eng.p s.eng.s s.blk := rfl
@[simp] theorem encryptEffect_digest (s : State) : (encryptEffect s).digest = s.digest := rfl
@[simp] theorem encryptEffect_cur (s : State) : (encryptEffect s).cur = s.cur := rfl
@[simp] theorem encryptEffect_resetPin (s : State) : (encryptEffect s).resetPin = s.resetPin := rfl
@[simp] theorem encryptEffect_events (s : State) : (encryptEffect s).events = s.events := rfl
@[simp] theorem encryptEffect_reads (s : State) : (encryptEffect s).reads = s.reads := rfl
@[simp] theorem encryptEffect_history (s : State) : (encryptEffect s).history = s.history := rfl
@[simp] theorem encryptEffect_draws (s : State) : (encryptEffect s).draws = s.draws := rfl

/-! `expKeyEffect` -/

@[simp] theorem expKeyEffect_eng (s : State) :
    (expKeyEffect s).eng = expand (keyByte s.key) s.keylen.toNat s.eng := rfl
@[simp] theorem expKeyEffect_counters (s : State) : (expKeyEffect s).counters = s.counters := rfl
@[simp] theorem expKeyEffect_tv (s : State) : (expKeyEffect s).tv = s.tv := rfl
@[simp] theorem expKeyEffect_busy (s : State) : (expKeyEffect s).busy = s.busy := rfl
@[simp] theorem expKeyEffect_done (s : State) : (expKeyEffect s).done = s.done := rfl
@[simp] theorem expKeyEffect_err (s : State) : (expKeyEffect s).err = s.err := rfl
@[simp] theorem expKeyEffect_lastOp (s : State) : (expKeyEffect s).lastOp = s.lastOp := rfl
@[simp] theorem expKeyEffect_cost (s : State) : (expKeyEffect s).cost = s.cost := rfl
@[simp] theorem expKeyEffect_keylen (s : State) : (expKeyEffect s).keylen = s.keylen := rfl
@[simp] theorem expKeyEffect_key (s : State) : (expKeyEffect s).key = s.key := rfl
@[simp] theorem expKeyEffect_salt (s : State) : (expKeyEffect s).salt = s.salt := rfl
@[simp] theorem expKeyEffect_blk (s : State) : (expKeyEffect s).blk = s.blk := rfl
@[simp] theorem expKeyEffect_digest (s : State) : (expKeyEffect s).digest = s.digest := rfl
@[simp] theorem expKeyEffect_cur (s : State) : (expKeyEffect s).cur = s.cur := rfl
@[simp] theorem expKeyEffect_resetPin (s : State) : (expKeyEffect s).resetPin = s.resetPin := rfl
@[simp] theorem expKeyEffect_events (s : State) : (expKeyEffect s).events = s.events := rfl
@[simp] theorem expKeyEffect_reads (s : State) : (expKeyEffect s).reads = s.reads := rfl
@[simp] theorem expKeyEffect_history (s : State) : (expKeyEffect s).history = s.history := rfl
@[simp] theorem expKeyEffect_draws (s : State) : (expKeyEffect s).draws = s.draws := rfl

/-! `expSaltEffect` -/

@[simp] theorem expSaltEffect_eng (s : State) :
    (expSaltEffect s).eng = expand (saltByte s.salt) Config.saltLen s.eng := rfl
@[simp] theorem expSaltEffect_counters (s : State) : (expSaltEffect s).counters = s.counters := rfl
@[simp] theorem expSaltEffect_tv (s : State) : (expSaltEffect s).tv = s.tv := rfl
@[simp] theorem expSaltEffect_busy (s : State) : (expSaltEffect s).busy = s.busy := rfl
@[simp] theorem expSaltEffect_done (s : State) : (expSaltEffect s).done = s.done := rfl
@[simp] theorem expSaltEffect_err (s : State) : (expSaltEffect s).err = s.err := rfl
@[simp] theorem expSaltEffect_lastOp (s : State) : (expSaltEffect s).lastOp = s.lastOp := rfl
@[simp] theorem expSaltEffect_cost (s : State) : (expSaltEffect s).cost = s.cost := rfl
@[simp] theorem expSaltEffect_keylen (s : State) : (expSaltEffect s).keylen = s.keylen := rfl
@[simp] theorem expSaltEffect_key (s : State) : (expSaltEffect s).key = s.key := rfl
@[simp] theorem expSaltEffect_salt (s : State) : (expSaltEffect s).salt = s.salt := rfl
@[simp] theorem expSaltEffect_blk (s : State) : (expSaltEffect s).blk = s.blk := rfl
@[simp] theorem expSaltEffect_digest (s : State) : (expSaltEffect s).digest = s.digest := rfl
@[simp] theorem expSaltEffect_cur (s : State) : (expSaltEffect s).cur = s.cur := rfl
@[simp] theorem expSaltEffect_resetPin (s : State) : (expSaltEffect s).resetPin = s.resetPin := rfl
@[simp] theorem expSaltEffect_events (s : State) : (expSaltEffect s).events = s.events := rfl
@[simp] theorem expSaltEffect_reads (s : State) : (expSaltEffect s).reads = s.reads := rfl
@[simp] theorem expSaltEffect_history (s : State) : (expSaltEffect s).history = s.history := rfl
@[simp] theorem expSaltEffect_draws (s : State) : (expSaltEffect s).draws = s.draws := rfl

/-! `sExpKeyEffect` -/

@[simp] theorem sExpKeyEffect_eng (s : State) :
    (sExpKeyEffect s).eng = saltedExpand (saltByte s.salt) (keyByte s.key) s.keylen.toNat s.eng := rfl
@[simp] theorem sExpKeyEffect_counters (s : State) : (sExpKeyEffect s).counters = s.counters := rfl
@[simp] theorem sExpKeyEffect_tv (s : State) : (sExpKeyEffect s).tv = s.tv := rfl
@[simp] theorem sExpKeyEffect_busy (s : State) : (sExpKeyEffect s).busy = s.busy := rfl
@[simp] theorem sExpKeyEffect_done (s : State) : (sExpKeyEffect s).done = s.done := rfl
@[simp] theorem sExpKeyEffect_err (s : State) : (sExpKeyEffect s).err = s.err := rfl
@[simp] theorem sExpKeyEffect_lastOp (s : State) : (sExpKeyEffect s).lastOp = s.lastOp := rfl
@[simp] theorem sExpKeyEffect_cost (s : State) : (sExpKeyEffect s).cost = s.cost := rfl
@[simp] theorem sExpKeyEffect_keylen (s : State) : (sExpKeyEffect s).keylen = s.keylen := rfl
@[simp] theorem sExpKeyEffect_key (s : State) : (sExpKeyEffect s).key = s.key := rfl
@[simp] theorem sExpKeyEffect_salt (s : State) : (sExpKeyEffect s).salt = s.salt := rfl
@[simp] theorem sExpKeyEffect_blk (s : State) : (sExpKeyEffect s).blk = s.blk := rfl
@[simp] theorem sExpKeyEffect_digest (s : State) : (sExpKeyEffect s).digest = s.digest := rfl
@[simp] theorem sExpKeyEffect_cur (s : State) : (sExpKeyEffect s).cur = s.cur := rfl
@[simp] theorem sExpKeyEffect_resetPin (s : State) : (sExpKeyEffect s).resetPin = s.resetPin := rfl
@[simp] theorem sExpKeyEffect_events (s : State) : (sExpKeyEffect s).events = s.events := rfl
@[simp] theorem sExpKeyEffect_reads (s : State) : (sExpKeyEffect s).reads = s.reads := rfl
@[simp] theorem sExpKeyEffect_history (s : State) : (sExpKeyEffect s).history = s.history := rfl
@[simp] theorem sExpKeyEffect_draws (s : State) : (sExpKeyEffect s).draws = s.draws := rfl

/-! `setupEffect` -/

@[simp] theorem setupEffect_eng (s : State) :
    (setupEffect s).eng = eksSetup s.cost.toNat (saltByte s.salt) (keyByte s.key) s.keylen.toNat s.eng := rfl
@[simp] theorem setupEffect_counters (s : State) : (setupEffect s).counters = s.counters := rfl
@[simp] theorem setupEffect_tv (s : State) : (setupEffect s).tv = true := rfl
@[simp] theorem setupEffect_busy (s : State) : (setupEffect s).busy = s.busy := rfl
@[simp] theorem setupEffect_done (s : State) : (setupEffect s).done = s.done := rfl
@[simp] theorem setupEffect_err (s : State) : (setupEffect s).err = s.err := rfl
@[simp] theorem setupEffect_lastOp (s : State) : (setupEffect s).lastOp = s.lastOp := rfl
@[simp] theorem setupEffect_cost (s : State) : (setupEffect s).cost = s.cost := rfl
@[simp] theorem setupEffect_keylen (s : State) : (setupEffect s).keylen = s.keylen := rfl
@[simp] theorem setupEffect_key (s : State) : (setupEffect s).key = s.key := rfl
@[simp] theorem setupEffect_salt (s : State) : (setupEffect s).salt = s.salt := rfl
@[simp] theorem setupEffect_blk (s : State) : (setupEffect s).blk = s.blk := rfl
@[simp] theorem setupEffect_digest (s : State) : (setupEffect s).digest = s.digest := rfl
@[simp] theorem setupEffect_cur (s : State) : (setupEffect s).cur = s.cur := rfl
@[simp] theorem setupEffect_resetPin (s : State) : (setupEffect s).resetPin = s.resetPin := rfl
@[simp] theorem setupEffect_events (s : State) : (setupEffect s).events = s.events := rfl
@[simp] theorem setupEffect_reads (s : State) : (setupEffect s).reads = s.reads := rfl
@[simp] theorem setupEffect_history (s : State) : (setupEffect s).history = s.history := rfl
@[simp] theorem setupEffect_draws (s : State) : (setupEffect s).draws = s.draws := rfl

/-! `digestEffect` -/

@[simp] theorem digestEffect_eng (s : State) :
    (digestEffect s).eng = { s.eng with encs := s.eng.encs + (bcDigestCounted s.eng.p s.eng.s).2 } := rfl
@[simp] theorem digestEffect_counters (s : State) : (digestEffect s).counters = s.counters := rfl
@[simp] theorem digestEffect_tv (s : State) : (digestEffect s).tv = s.tv := rfl
@[simp] theorem digestEffect_busy (s : State) : (digestEffect s).busy = s.busy := rfl
@[simp] theorem digestEffect_done (s : State) : (digestEffect s).done = s.done := rfl
@[simp] theorem digestEffect_err (s : State) : (digestEffect s).err = s.err := rfl
@[simp] theorem digestEffect_lastOp (s : State) : (digestEffect s).lastOp = s.lastOp := rfl
@[simp] theorem digestEffect_cost (s : State) : (digestEffect s).cost = s.cost := rfl
@[simp] theorem digestEffect_keylen (s : State) : (digestEffect s).keylen = s.keylen := rfl
@[simp] theorem digestEffect_key (s : State) : (digestEffect s).key = s.key := rfl
@[simp] theorem digestEffect_salt (s : State) : (digestEffect s).salt = s.salt := rfl
@[simp] theorem digestEffect_blk (s : State) : (digestEffect s).blk = s.blk := rfl
@[simp] theorem digestEffect_digest (s : State) : (digestEffect s).digest = bcDigest s.eng.p s.eng.s := rfl
@[simp] theorem digestEffect_cur (s : State) : (digestEffect s).cur = s.cur := rfl
@[simp] theorem digestEffect_resetPin (s : State) : (digestEffect s).resetPin = s.resetPin := rfl
@[simp] theorem digestEffect_events (s : State) : (digestEffect s).events = s.events := rfl
@[simp] theorem digestEffect_reads (s : State) : (digestEffect s).reads = s.reads := rfl
@[simp] theorem digestEffect_history (s : State) : (digestEffect s).history = s.history := rfl
@[simp] theorem digestEffect_draws (s : State) : (digestEffect s).draws = s.draws := rfl

/-! `bcryptEffect` -/

@[simp] theorem bcryptEffect_counters (s : State) : (bcryptEffect s).counters = s.counters := rfl
@[simp] theorem bcryptEffect_tv (s : State) : (bcryptEffect s).tv = true := rfl
@[simp] theorem bcryptEffect_busy (s : State) : (bcryptEffect s).busy = s.busy := rfl
@[simp] theorem bcryptEffect_done (s : State) : (bcryptEffect s).done = s.done := rfl
@[simp] theorem bcryptEffect_err (s : State) : (bcryptEffect s).err = s.err := rfl
@[simp] theorem bcryptEffect_lastOp (s : State) : (bcryptEffect s).lastOp = s.lastOp := rfl
@[simp] theorem bcryptEffect_cost (s : State) : (bcryptEffect s).cost = s.cost := rfl
@[simp] theorem bcryptEffect_keylen (s : State) : (bcryptEffect s).keylen = s.keylen := rfl
@[simp] theorem bcryptEffect_key (s : State) : (bcryptEffect s).key = s.key := rfl
@[simp] theorem bcryptEffect_salt (s : State) : (bcryptEffect s).salt = s.salt := rfl
@[simp] theorem bcryptEffect_blk (s : State) : (bcryptEffect s).blk = s.blk := rfl
@[simp] theorem bcryptEffect_cur (s : State) : (bcryptEffect s).cur = s.cur := rfl
@[simp] theorem bcryptEffect_resetPin (s : State) : (bcryptEffect s).resetPin = s.resetPin := rfl
@[simp] theorem bcryptEffect_events (s : State) : (bcryptEffect s).events = s.events := rfl
@[simp] theorem bcryptEffect_reads (s : State) : (bcryptEffect s).reads = s.reads := rfl
@[simp] theorem bcryptEffect_history (s : State) : (bcryptEffect s).history = s.history := rfl
@[simp] theorem bcryptEffect_draws (s : State) : (bcryptEffect s).draws = s.draws := rfl

/-! `zeroizeEffect` -/

@[simp] theorem zeroizeEffect_eng (s : State) :
    (zeroizeEffect s).eng = { s.eng with p := Vector.replicate 18 0, s := Vector.replicate 4 (Vector.replicate 256 0) } := rfl
@[simp] theorem zeroizeEffect_counters (s : State) : (zeroizeEffect s).counters = s.counters := rfl
@[simp] theorem zeroizeEffect_tv (s : State) : (zeroizeEffect s).tv = false := rfl
@[simp] theorem zeroizeEffect_busy (s : State) : (zeroizeEffect s).busy = s.busy := rfl
@[simp] theorem zeroizeEffect_done (s : State) : (zeroizeEffect s).done = s.done := rfl
@[simp] theorem zeroizeEffect_err (s : State) : (zeroizeEffect s).err = s.err := rfl
@[simp] theorem zeroizeEffect_lastOp (s : State) : (zeroizeEffect s).lastOp = s.lastOp := rfl
@[simp] theorem zeroizeEffect_cost (s : State) : (zeroizeEffect s).cost = s.cost := rfl
@[simp] theorem zeroizeEffect_keylen (s : State) : (zeroizeEffect s).keylen = s.keylen := rfl
@[simp] theorem zeroizeEffect_key (s : State) : (zeroizeEffect s).key = Vector.replicate 18 0 := rfl
@[simp] theorem zeroizeEffect_salt (s : State) : (zeroizeEffect s).salt = Vector.replicate 4 0 := rfl
@[simp] theorem zeroizeEffect_blk (s : State) : (zeroizeEffect s).blk = ⟨0, 0⟩ := rfl
@[simp] theorem zeroizeEffect_digest (s : State) : (zeroizeEffect s).digest = Vector.replicate 6 0 := rfl
@[simp] theorem zeroizeEffect_cur (s : State) : (zeroizeEffect s).cur = s.cur := rfl
@[simp] theorem zeroizeEffect_resetPin (s : State) : (zeroizeEffect s).resetPin = s.resetPin := rfl
@[simp] theorem zeroizeEffect_events (s : State) : (zeroizeEffect s).events = s.events := rfl
@[simp] theorem zeroizeEffect_reads (s : State) : (zeroizeEffect s).reads = s.reads := rfl
@[simp] theorem zeroizeEffect_history (s : State) : (zeroizeEffect s).history = s.history := rfl
@[simp] theorem zeroizeEffect_draws (s : State) : (zeroizeEffect s).draws = s.draws := rfl

/-- BCRYPT's digest is that of SETUP's tables. -/
theorem bcryptEffect_digest (s : State) :
    (bcryptEffect s).digest = bcDigest (setupEffect s).eng.p (setupEffect s).eng.s := rfl

/-- BCRYPT leaves SETUP's tables. -/
theorem bcryptEffect_p (s : State) : (bcryptEffect s).eng.p = (setupEffect s).eng.p := rfl

theorem bcryptEffect_s (s : State) : (bcryptEffect s).eng.s = (setupEffect s).eng.s := rfl

end Sys2Proof.Machine
end

