-- ==== Sys2Proof/Laws/HostRun.lean ====
section
/-! SUPPORT. What a host's WAIT and CHECK do: the loop of WAIT goes round while BUSY = 1 and ends at the first read that sees
BUSY = 0 (spec/30_encoding.md R89).
And what a run's final registers do not show. -/

namespace Sys2Proof.Machine

/-- R24, R89: the test of WAIT is BUSY = 0. -/
theorem waitEnds_statusWord (s : State) : waitEnds (statusWord s) = !s.busy := by
  unfold waitEnds statusWord
  generalize s.lastOp = l
  generalize s.err = e
  cases s.busy <;> cases s.done <;> cases s.tv <;> cases e <;> revert l <;> decide

/-- R24, R89: the test of CHECK is ERR = 0. -/
theorem checkPasses_statusWord (s : State) : checkPasses (statusWord s) = decide (s.err = .none) := by
  unfold checkPasses statusWord
  generalize s.lastOp = l
  generalize s.err = e
  cases s.busy <;> cases s.done <;> cases s.tv <;> cases e <;> revert l <;> decide

/-- A core out of reset that has replied to a read of STATUS. -/
def repliedStatus (s : State) : State := { s with reads := ⟨offsetOf .status, statusWord s⟩ :: s.reads }

theorem step_read_status {s : State} (pin : s.resetPin = false) :
    step { s with events := rd .status :: s.events } = .next (repliedStatus s) := by
  have hr : regAt (offsetOf .status) = .status := by decide
  simp [step, fetch, rd, onEvent, hostRead, readReg, pin, hr, repliedStatus, statusWord]

/-- R89: what a host's turn at WAIT does: one read of STATUS, after which the loop goes round again exactly while BUSY = 1. -/
theorem hostTurn_wait {h : HostRun} {rest : List Access} (todo : h.todo = .wait :: rest)
    (pin : h.core.resetPin = false) :
    hostTurn h = .next { h with
      core := repliedStatus h.core
      todo := if h.core.busy then h.todo else rest
      replies := ⟨offsetOf .status, statusWord h.core⟩ :: h.replies } := by
  simp only [hostTurn, todo, withStep, busEvent, step_read_status pin, afterAccess, newestReply, newReplies, repliedStatus,
    List.head?_cons, Option.map_some, Option.getD_some, waitEnds_statusWord]
  cases h.core.busy <;> simp

/-- R89, R210: what a host's turn at CHECK does: one read of STATUS, and the run has failed if ERR ≠ 0. -/
theorem hostTurn_check {h : HostRun} {rest : List Access} (todo : h.todo = .check :: rest)
    (pin : h.core.resetPin = false) :
    hostTurn h = .next { h with
      core := repliedStatus h.core
      todo := rest
      replies := ⟨offsetOf .status, statusWord h.core⟩ :: h.replies
      checkFailed := h.checkFailed || decide (h.core.err ≠ .none) } := by
  simp only [hostTurn, todo, withStep, busEvent, step_read_status pin, afterAccess, newestReply, newReplies, repliedStatus,
    List.head?_cons, Option.map_some, Option.getD_some, checkPasses_statusWord]
  simp

/-- The final registers show no more than a host can tell: not the tables while TV = 0, not an internal register. -/
theorem finalRegisters_of_hostEquiv {s t : State} (h : hostEquiv s t) : finalRegisters t = finalRegisters s := by
  obtain ⟨same, tables⟩ := h
  rw [same]
  cases tv : s.tv with
  | false => simp [finalRegisters, statusWord, tv]
  | true => simp [finalRegisters, statusWord, tv, tables tv]

end Sys2Proof.Machine
end

