-- ==== Sys2Proof/Laws/Loops.lean ====
section
/-! SUPPORT. Once and for all: induction over the pseudocode's `for` loops, and what the key-schedule routines leave alone and count. -/

namespace Sys2Proof.Machine

/-- A property that holds before a loop and that every turn keeps holds after it. -/
theorem fold_induct {α : Type} {n : Nat} {f : (i : Nat) → i < n → α → α} {a : α} (motive : Nat → α → Prop)
    (start : motive 0 a) (turn : ∀ i h x, motive i x → motive (i + 1) (f i h x)) :
    motive n (Nat.fold n f a) := by
  induction n with
  | zero => simpa using start
  | succ n ih =>
    rw [Nat.fold_succ]
    exact turn n (Nat.lt_succ_self n) _ (ih fun i h x hx => turn i (by omega) x hx)

/-- Two loops of the same length whose turns keep a relation end related. -/
theorem fold_related {α β : Type} {n : Nat} {f : (i : Nat) → i < n → α → α} {g : (i : Nat) → i < n → β → β}
    {a : α} {b : β} (R : α → β → Prop) (start : R a b) (turn : ∀ i h x y, R x y → R (f i h x) (g i h y)) :
    R (Nat.fold n f a) (Nat.fold n g b) := by
  induction n with
  | zero => simpa using start
  | succ n ih =>
    rw [Nat.fold_succ, Nat.fold_succ]
    exact turn n (Nat.lt_succ_self n) _ _ (ih fun i h x y hxy => turn i (by omega) x y hxy)

/-- A quantity that every turn raises by `c` is raised by `n * c`. -/
theorem fold_count {α : Type} {n : Nat} {f : (i : Nat) → i < n → α → α} {a : α} (count : α → Nat) (c : Nat)
    (turn : ∀ i h x, count (f i h x) = count x + c) : count (Nat.fold n f a) = count a + n * c := by
  refine fold_induct (motive := fun i x => count x = count a + i * c) (by simp) ?_
  intro i h x hx
  rw [turn, hx]; ring

/-! The pieces of a pass: each changes only what its rule names. -/

@[simp] theorem encryptRb_p (e : Engine) : (encryptRb e).p = e.p := rfl
@[simp] theorem encryptRb_s (e : Engine) : (encryptRb e).s = e.s := rfl
@[simp] theorem encryptRb_rb (e : Engine) : (encryptRb e).rb = bfEnc e.p e.s e.rb := rfl
@[simp] theorem encryptRb_kpos (e : Engine) : (encryptRb e).kpos = e.kpos := rfl
@[simp] theorem encryptRb_spos (e : Engine) : (encryptRb e).spos = e.spos := rfl
@[simp] theorem encryptRb_encs (e : Engine) : (encryptRb e).encs = e.encs + 1 := rfl

@[simp] theorem storeP_p (i : Fin 9) (e : Engine) :
    (storeP i e).p = (e.p.set (2 * i.val) e.rb.l).set (2 * i.val + 1) e.rb.r := rfl
@[simp] theorem storeP_s (i : Fin 9) (e : Engine) : (storeP i e).s = e.s := rfl
@[simp] theorem storeP_rb (i : Fin 9) (e : Engine) : (storeP i e).rb = e.rb := rfl
@[simp] theorem storeP_kpos (i : Fin 9) (e : Engine) : (storeP i e).kpos = e.kpos := rfl
@[simp] theorem storeP_spos (i : Fin 9) (e : Engine) : (storeP i e).spos = e.spos := rfl
@[simp] theorem storeP_encs (i : Fin 9) (e : Engine) : (storeP i e).encs = e.encs := rfl

@[simp] theorem storeS_p (k : Fin 4) (j : Fin 128) (e : Engine) : (storeS k j e).p = e.p := rfl
@[simp] theorem storeS_s (k : Fin 4) (j : Fin 128) (e : Engine) :
    (storeS k j e).s = e.s.set k ((e.s[k].set (2 * j.val) e.rb.l).set (2 * j.val + 1) e.rb.r) := rfl
@[simp] theorem storeS_rb (k : Fin 4) (j : Fin 128) (e : Engine) : (storeS k j e).rb = e.rb := rfl
@[simp] theorem storeS_kpos (k : Fin 4) (j : Fin 128) (e : Engine) : (storeS k j e).kpos = e.kpos := rfl
@[simp] theorem storeS_spos (k : Fin 4) (j : Fin 128) (e : Engine) : (storeS k j e).spos = e.spos := rfl
@[simp] theorem storeS_encs (k : Fin 4) (j : Fin 128) (e : Engine) : (storeS k j e).encs = e.encs := rfl

@[simp] theorem xorSalt_p (salt : Nat → Byte) (e : Engine) : (xorSalt salt e).p = e.p := rfl
@[simp] theorem xorSalt_s (salt : Nat → Byte) (e : Engine) : (xorSalt salt e).s = e.s := rfl
@[simp] theorem xorSalt_kpos (salt : Nat → Byte) (e : Engine) : (xorSalt salt e).kpos = e.kpos := rfl
@[simp] theorem xorSalt_encs (salt : Nat → Byte) (e : Engine) : (xorSalt salt e).encs = e.encs := rfl

/-- The key mix writes P and KPOS only. -/
theorem keymix_frame (buf : Nat → Byte) (len : Nat) (e : Engine) :
    keymix buf len e = { e with p := (keymix buf len e).p, kpos := (keymix buf len e).kpos } := by
  unfold keymix
  refine fold_induct (motive := fun _ (x : Engine) => x = { e with p := x.p, kpos := x.kpos }) rfl ?_
  intro i h x hx
  have h1 : x.s = e.s := by rw [hx]
  have h2 : x.rb = e.rb := by rw [hx]
  have h3 : x.spos = e.spos := by rw [hx]
  have h4 : x.encs = e.encs := by rw [hx]
  simp [keymixStep, h1, h2, h3, h4]

@[simp] theorem keymix_s (buf : Nat → Byte) (len : Nat) (e : Engine) : (keymix buf len e).s = e.s := by
  rw [keymix_frame]
@[simp] theorem keymix_rb (buf : Nat → Byte) (len : Nat) (e : Engine) : (keymix buf len e).rb = e.rb := by
  rw [keymix_frame]
@[simp] theorem keymix_spos (buf : Nat → Byte) (len : Nat) (e : Engine) : (keymix buf len e).spos = e.spos := by
  rw [keymix_frame]
@[simp] theorem keymix_encs (buf : Nat → Byte) (len : Nat) (e : Engine) : (keymix buf len e).encs = e.encs := by
  rw [keymix_frame]

/-- A relation that `before`, the encryption and the stores keep holds after the whole pass. -/
theorem regenPass_related (R : Engine → Engine → Prop) (before before' : Engine → Engine) (a b : Engine) (start : R a b)
    (turnP : ∀ i x y, R x y → R (storeP i (encryptRb (before x))) (storeP i (encryptRb (before' y))))
    (turnS : ∀ k j x y, R x y → R (storeS k j (encryptRb (before x))) (storeS k j (encryptRb (before' y)))) :
    R (regenPass before a) (regenPass before' b) := by
  unfold regenPass
  refine fold_related R (fold_related R start fun i h x y hxy => turnP ⟨i, h⟩ x y hxy) ?_
  intro k hk x y hxy
  exact fold_related R hxy fun j hj x y hxy => turnS ⟨k, hk⟩ ⟨j, hj⟩ x y hxy

/-- The engines agree on all that a pass reads. -/
def sameTables (a b : Engine) : Prop := a.p = b.p ∧ a.s = b.s ∧ a.rb = b.rb

/-- A pass over engines that agree on tables and running block, with preparations that keep that, ends in agreement. -/
theorem regenPass_sameTables (before before' : Engine → Engine) (a b : Engine) (start : sameTables a b)
    (prep : ∀ x y, sameTables x y → sameTables (before x) (before' y)) :
    sameTables (regenPass before a) (regenPass before' b) := by
  refine regenPass_related sameTables before before' a b start ?_ ?_
  · intro i x y hxy
    obtain ⟨h1, h2, h3⟩ := prep x y hxy
    simp [sameTables, h1, h2, h3]
  · intro k j x y hxy
    obtain ⟨h1, h2, h3⟩ := prep x y hxy
    simp [sameTables, h1, h2, h3]

end Sys2Proof.Machine
end

