-- ==== Sys2Proof/Laws/Ops.lean ====
section
/-! SUPPORT. One lemma per shared operation that says everything it can do, the inversion of `exec`, and the inversion of `step`
(`step_stepped`), from which the claims about every step follow. -/

namespace Sys2Proof.Machine

/-! ### A command, from issue to completion -/

theorem runCommand_running {i : Instr} {f : State → State} {s : State} (hb : s.busy = true) (hc : s.cur = some i) :
    runCommand i f s = .next (complete (f s)) := by
  simp [runCommand, hb, hc]

theorem runCommand_dropped {i : Instr} {f : State → State} {s : State} (hb : s.busy = true) (hc : s.cur ≠ some i) :
    runCommand i f s = .next (dropWrite .ctrl (encode i) s) := by
  simp [runCommand, hb, hc]

theorem runCommand_accepted {i : Instr} {f : State → State} {s : State} (hb : s.busy = false)
    (hk : commandCheck i s = .none) : runCommand i f s = .next (accept i s) := by
  simp [runCommand, hb, hk]

theorem runCommand_rejected {i : Instr} {f : State → State} {s : State} (hb : s.busy = false)
    (hk : commandCheck i s ≠ .none) : runCommand i f s = .next (reject (commandCheck i s) (encode i) s) := by
  simp [runCommand, hb, hk]

/-- Everything a command can do at a state. -/
theorem runCommand_cases (i : Instr) (f : State → State) (s : State) :
    (s.busy = true ∧ s.cur = some i ∧ runCommand i f s = .next (complete (f s))) ∨
    (s.busy = true ∧ s.cur ≠ some i ∧ runCommand i f s = .next (dropWrite .ctrl (encode i) s)) ∨
    (s.busy = false ∧ commandCheck i s = .none ∧ runCommand i f s = .next (accept i s)) ∨
    (s.busy = false ∧ commandCheck i s ≠ .none ∧
      runCommand i f s = .next (reject (commandCheck i s) (encode i) s)) := by
  cases hb : s.busy
  · by_cases hk : commandCheck i s = .none
    · exact .inr (.inr (.inl ⟨rfl, hk, runCommand_accepted hb hk⟩))
    · exact .inr (.inr (.inr ⟨rfl, hk, runCommand_rejected hb hk⟩))
  · by_cases hc : s.cur = some i
    · exact .inl ⟨rfl, hc, runCommand_running hb hc⟩
    · exact .inr (.inl ⟨rfl, hc, runCommand_dropped hb hc⟩)

/-- The completion pseudocode of each command. -/
def effectOf : Instr → State → State
  | .init => initEffect
  | .encrypt => encryptEffect
  | .expKey => expKeyEffect
  | .expSalt => expSaltEffect
  | .sExpKey => sExpKeyEffect
  | .setup => setupEffect
  | .digest => digestEffect
  | .bcrypt => bcryptEffect
  | .zeroize => zeroizeEffect

/-- Every arm of `exec` is the one shared operation over its command's effect. -/
theorem exec_eq_runCommand (i : Instr) (s : State) : exec i s = runCommand i (effectOf i) s := by
  cases i <;> rfl

/-- The completion of the command in progress. -/
theorem exec_running {i : Instr} {s : State} (hb : s.busy = true) (hc : s.cur = some i) :
    exec i s = .next (complete (effectOf i s)) :=
  (exec_eq_runCommand i s).trans (runCommand_running hb hc)

/-- What no command's completion pseudocode touches. -/
theorem effectOf_frame (i : Instr) (s : State) :
    (effectOf i s).cost = s.cost ∧ (effectOf i s).keylen = s.keylen ∧ (effectOf i s).err = s.err ∧
    (effectOf i s).lastOp = s.lastOp ∧ (effectOf i s).resetPin = s.resetPin ∧ (effectOf i s).events = s.events ∧
    (effectOf i s).reads = s.reads ∧ (effectOf i s).history = s.history ∧ (effectOf i s).draws = s.draws ∧
    (effectOf i s).busy = s.busy ∧ (effectOf i s).done = s.done ∧ (effectOf i s).cur = s.cur := by
  cases i <;> simp [effectOf]

@[simp] theorem effectOf_err (i : Instr) (s : State) : (effectOf i s).err = s.err := (effectOf_frame i s).2.2.1
@[simp] theorem effectOf_lastOp (i : Instr) (s : State) : (effectOf i s).lastOp = s.lastOp :=
  (effectOf_frame i s).2.2.2.1
@[simp] theorem effectOf_resetPin (i : Instr) (s : State) : (effectOf i s).resetPin = s.resetPin :=
  (effectOf_frame i s).2.2.2.2.1
@[simp] theorem effectOf_events (i : Instr) (s : State) : (effectOf i s).events = s.events :=
  (effectOf_frame i s).2.2.2.2.2.1
@[simp] theorem effectOf_reads (i : Instr) (s : State) : (effectOf i s).reads = s.reads :=
  (effectOf_frame i s).2.2.2.2.2.2.1
@[simp] theorem effectOf_history (i : Instr) (s : State) : (effectOf i s).history = s.history :=
  (effectOf_frame i s).2.2.2.2.2.2.2.1
@[simp] theorem effectOf_draws (i : Instr) (s : State) : (effectOf i s).draws = s.draws :=
  (effectOf_frame i s).2.2.2.2.2.2.2.2.1
@[simp] theorem effectOf_cost (i : Instr) (s : State) : (effectOf i s).cost = s.cost := (effectOf_frame i s).1
@[simp] theorem effectOf_keylen (i : Instr) (s : State) : (effectOf i s).keylen = s.keylen := (effectOf_frame i s).2.1

/-! ### The checks -/

/-- The checks never look at what an event list or a report changes: they depend on COST, KEYLEN and TV alone. -/
theorem commandCheck_congr {i : Instr} {s t : State} (hc : t.cost = s.cost) (hk : t.keylen = s.keylen)
    (ht : t.tv = s.tv) : commandCheck i t = commandCheck i s := by
  cases i <;> simp [commandCheck, costCheck, keylenCheck, tablesCheck, hc, hk, ht]

theorem costCheck_eq_none {s : State} : costCheck s = .none ↔ 4 ≤ s.cost.toNat := by
  unfold costCheck Config.costMin; split <;> simp <;> omega

theorem keylenCheck_eq_none {s : State} : keylenCheck s = .none ↔ 1 ≤ s.keylen.toNat ∧ s.keylen.toNat ≤ 72 := by
  unfold keylenCheck Config.keyMax; split <;> simp <;> omega

theorem tablesCheck_eq_none {s : State} : tablesCheck s = .none ↔ s.tv = true := by
  unfold tablesCheck; split <;> simp_all

theorem firstErr_eq_none {a b : Err} : firstErr a b = .none ↔ a = .none ∧ b = .none := by
  unfold firstErr; split <;> simp_all

/-! ### Bytes of words -/

/-- R9: the bytes of a word put together by `be32`, first byte first. -/
theorem byteOf_be32 (a b c d : Byte) :
    byteOf (be32 a b c d) 0 = a ∧ byteOf (be32 a b c d) 1 = b ∧ byteOf (be32 a b c d) 2 = c ∧
      byteOf (be32 a b c d) 3 = d := by
  refine ⟨?_, ?_, ?_, ?_⟩ <;>
    (ext i hi; have : i < 8 := hi; interval_cases i <;> simp [byteOf, be32])

/-! ### Host accesses -/

theorem idleRead_snd (v : Word) (s : State) :
    (idleRead v s).2 = s ∨ (idleRead v s).2 = { s with draws := s.draws + 1 } := by
  unfold idleRead drawWord; split <;> simp

/-- A host read has no side effect on the core; at most it uses a free value. -/
theorem readReg_snd (r : Reg) (s : State) :
    (readReg r s).2 = s ∨ (readReg r s).2 = { s with draws := s.draws + 1 } := by
  unfold readReg
  split
  · simp
  · cases r <;> simp [tableRead, idleRead_snd]

theorem hostRead_frame (off : Offset) (s : State) :
    hostRead off s = { s with reads := ⟨off, (readReg (regAt off) s).1⟩ :: s.reads, draws := (hostRead off s).draws } := by
  unfold hostRead
  rcases readReg_snd (regAt off) s with h | h <;> simp [h]

/-- A write of a register other than CTRL is ignored, dropped while BUSY, or stored in one input register. -/
theorem writeReg_cases (r : Reg) (v : Word) (s : State) :
    writeReg r v s = s ∨ (s.busy = true ∧ writeReg r v s = dropWrite r v s) ∨
    (s.busy = false ∧ writeReg r v s = { s with cost := (writeReg r v s).cost, keylen := (writeReg r v s).keylen,
                                                salt := (writeReg r v s).salt, key := (writeReg r v s).key,
                                                blk := (writeReg r v s).blk }) := by
  cases hb : s.busy <;> cases r <;> simp [writeReg, inputWrite, hb]

/-! ### One step -/

/-- The state once the event a step takes up has left the list. -/
def popped (s : State) : State := { s with events := s.events.tail }

@[simp] theorem popped_eng (s : State) : (popped s).eng = s.eng := rfl
@[simp] theorem popped_counters (s : State) : (popped s).counters = s.counters := rfl
@[simp] theorem popped_tv (s : State) : (popped s).tv = s.tv := rfl
@[simp] theorem popped_busy (s : State) : (popped s).busy = s.busy := rfl
@[simp] theorem popped_done (s : State) : (popped s).done = s.done := rfl
@[simp] theorem popped_err (s : State) : (popped s).err = s.err := rfl
@[simp] theorem popped_lastOp (s : State) : (popped s).lastOp = s.lastOp := rfl
@[simp] theorem popped_cost (s : State) : (popped s).cost = s.cost := rfl
@[simp] theorem popped_keylen (s : State) : (popped s).keylen = s.keylen := rfl
@[simp] theorem popped_key (s : State) : (popped s).key = s.key := rfl
@[simp] theorem popped_salt (s : State) : (popped s).salt = s.salt := rfl
@[simp] theorem popped_blk (s : State) : (popped s).blk = s.blk := rfl
@[simp] theorem popped_digest (s : State) : (popped s).digest = s.digest := rfl
@[simp] theorem popped_cur (s : State) : (popped s).cur = s.cur := rfl
@[simp] theorem popped_resetPin (s : State) : (popped s).resetPin = s.resetPin := rfl
@[simp] theorem popped_reads (s : State) : (popped s).reads = s.reads := rfl
@[simp] theorem popped_history (s : State) : (popped s).history = s.history := rfl
@[simp] theorem popped_draws (s : State) : (popped s).draws = s.draws := rfl
@[simp] theorem popped_events (s : State) : (popped s).events = s.events.tail := rfl

/-- The step is the engine's turn. -/
def engineMoves (s : State) : Prop := s.events = [] ∨ ∃ rest, s.events = .engine :: rest

/-- Everything one step can do. -/
inductive Stepped (s : State) : State → Prop where
  | idle (turn : engineMoves s) (none : s.busy = false ∨ s.cur = none) : Stepped s (popped s)
  | completed (i : Instr) (turn : engineMoves s) (busy : s.busy = true) (cur : s.cur = some i) :
      Stepped s (complete (effectOf i (popped s)))
  | read (off : Offset) (rest : List Event) (ev : s.events = .read off :: rest) : Stepped s (hostRead off (popped s))
  | held (off : Offset) (v : Word) (rest : List Event) (ev : s.events = .write off v :: rest)
      (pin : s.resetPin = true) : Stepped s (popped s)
  | lost (off : Offset) (v : Word) (rest : List Event) (ev : s.events = .write off v :: rest)
      (pin : s.resetPin = false) (reg : regAt off = .ctrl) (busy : s.busy = true) :
      Stepped s (dropWrite .ctrl v (popped s))
  | illegal (off : Offset) (v : Word) (rest : List Event) (ev : s.events = .write off v :: rest)
      (pin : s.resetPin = false) (reg : regAt off = .ctrl) (idle : s.busy = false) (f : WordFault)
      (bad : decode v = .error f) : Stepped s (reject .illegal v (popped s))
  | rejected (off : Offset) (v : Word) (i : Instr) (rest : List Event) (ev : s.events = .write off v :: rest)
      (pin : s.resetPin = false) (reg : regAt off = .ctrl) (idle : s.busy = false) (good : decode v = .ok i)
      (fails : commandCheck i s ≠ .none) : Stepped s (reject (commandCheck i s) (encode i) (popped s))
  | accepted (off : Offset) (v : Word) (i : Instr) (rest : List Event) (ev : s.events = .write off v :: rest)
      (pin : s.resetPin = false) (reg : regAt off = .ctrl) (idle : s.busy = false) (good : decode v = .ok i)
      (passes : commandCheck i s = .none) : Stepped s (accept i (popped s))
  | written (off : Offset) (v : Word) (rest : List Event) (ev : s.events = .write off v :: rest)
      (pin : s.resetPin = false) (reg : regAt off ≠ .ctrl) : Stepped s (writeReg (regAt off) v (popped s))
  | reset (rest : List Event) (ev : s.events = .assertReset :: rest) : Stepped s (assertReset (popped s))
  | released (rest : List Event) (ev : s.events = .releaseReset :: rest) : Stepped s (releaseReset (popped s))

theorem commandCheck_popped (i : Instr) (s : State) : commandCheck i (popped s) = commandCheck i s :=
  commandCheck_congr rfl rfl rfl

/-- What an action leads to when it leads to a next state. -/
def actionLeads (a : Action) (t : State) : Prop :=
  (∃ i s', a = .run i s' ∧ exec i s' = .next t) ∨ a = .reach t

theorem step_actionLeads {s t : State} (h : step s = .next t) : actionLeads (fetch s) t := by
  unfold step at h
  split at h
  · rename_i i s' hf; exact .inl ⟨i, s', hf, h⟩
  · rename_i s' hf
    simp only [Host.Outcome.next.injEq] at h
    exact .inr (h ▸ hf)

theorem actionLeads_reach {s t : State} (h : actionLeads (.reach s) t) : t = s := by
  rcases h with ⟨i, s', h, -⟩ | h <;> simp_all

theorem actionLeads_run {i : Instr} {s t : State} (h : actionLeads (.run i s) t) : exec i s = .next t := by
  rcases h with ⟨j, s', h, hx⟩ | h
  · simp only [Action.run.injEq] at h
    obtain ⟨rfl, rfl⟩ := h
    exact hx
  · simp at h

/-- The engine's turn where no command runs. -/
theorem engineTurn_idle {s : State} (h : s.busy = false ∨ s.cur = none) : engineTurn s = .reach s := by
  unfold engineTurn
  rcases h with h | h <;> simp [h]

/-- The engine's turn while a command runs. -/
theorem engineTurn_running {s : State} {i : Instr} (hb : s.busy = true) (hc : s.cur = some i) :
    engineTurn s = .run i s := by
  simp [engineTurn, hb, hc]

theorem engineTurn_stepped {s t : State} (turn : engineMoves s) (h : actionLeads (engineTurn (popped s)) t) :
    Stepped s t := by
  by_cases hn : s.busy = false ∨ s.cur = none
  · rw [engineTurn_idle (s := popped s) hn] at h
    exact actionLeads_reach h ▸ .idle turn hn
  · rw [not_or] at hn
    obtain ⟨i, hc⟩ := Option.ne_none_iff_exists'.mp hn.2
    have hb : s.busy = true := Bool.of_not_eq_false hn.1
    rw [engineTurn_running (s := popped s) hb hc] at h
    have h := actionLeads_run h
    rw [exec_eq_runCommand, runCommand_running (s := popped s) hb hc] at h
    simp only [Host.Outcome.next.injEq] at h
    exact h ▸ .completed i turn hb hc

theorem ctrlWrite_stepped {s t : State} {off : Offset} {v : Word} {rest : List Event}
    (ev : s.events = .write off v :: rest) (pin : s.resetPin = false) (reg : regAt off = .ctrl)
    (h : actionLeads (ctrlWrite v (popped s)) t) : Stepped s t := by
  unfold ctrlWrite at h
  split at h
  · rename_i hb
    exact actionLeads_reach h ▸ .lost off v rest ev pin reg hb
  · rename_i hb
    have hb : s.busy = false := Bool.eq_false_iff.mpr hb
    split at h
    · rename_i i hd
      have h := actionLeads_run h
      rw [exec_eq_runCommand] at h
      by_cases hk : commandCheck i s = .none
      · rw [runCommand_accepted (s := popped s) hb ((commandCheck_popped i s).trans hk)] at h
        simp only [Host.Outcome.next.injEq] at h
        exact h ▸ .accepted off v i rest ev pin reg hb hd hk
      · have hk' : commandCheck i (popped s) ≠ .none := by rwa [commandCheck_popped]
        rw [runCommand_rejected (s := popped s) hb hk', commandCheck_popped] at h
        simp only [Host.Outcome.next.injEq] at h
        exact h ▸ .rejected off v i rest ev pin reg hb hd hk
    · rename_i f hd
      exact actionLeads_reach h ▸ .illegal off v rest ev pin reg hb f hd

/-- The inversion of `step`: a step does one of the things `Stepped` lists, and nothing else. -/
theorem step_stepped {s t : State} (h : step s = .next t) : Stepped s t := by
  have h := step_actionLeads h
  unfold fetch at h
  split at h
  · rename_i hev
    have hp : popped s = s := by simp [popped, hev]; rw [← hev]
    rw [← hp] at h
    exact engineTurn_stepped (.inl hev) h
  · rename_i e rest hev
    have hp : { s with events := rest } = popped s := by simp [popped, hev]
    rw [hp] at h
    cases e with
    | read off => exact actionLeads_reach h ▸ .read off rest hev
    | assertReset => exact actionLeads_reach h ▸ .reset rest hev
    | releaseReset => exact actionLeads_reach h ▸ .released rest hev
    | engine => exact engineTurn_stepped (.inr ⟨rest, hev⟩) h
    | write off v =>
      simp only [onEvent, hostWrite] at h
      split at h
      · rename_i hpin
        exact actionLeads_reach h ▸ .held off v rest hev hpin
      · rename_i hpin
        have hpin : s.resetPin = false := Bool.eq_false_iff.mpr hpin
        split at h
        · rename_i hreg
          exact ctrlWrite_stepped hev hpin hreg h
        · rename_i hreg
          exact actionLeads_reach h ▸ .written off v rest hev hpin hreg

/-! ### Runs -/

theorem core_run_next (M : Host.Core) {s t : M.State} (n : Nat) (h : M.step s = .next t) : M.run (n + 1) s = M.run n t := by
  simp only [Host.Core.run, h]

theorem core_run_refused (M : Host.Core) {s : M.State} {r : M.Refusal} (n : Nat) (h : M.step s = .refused r) :
    M.run (n + 1) s = .refused r := by
  simp only [Host.Core.run, h]

@[simp] theorem run_zero (s : State) : run 0 s = .next s := rfl

theorem run_succ {s t : State} (n : Nat) (h : step s = .next t) : run (n + 1) s = run n t :=
  core_run_next Sys2Proof.core n h

/-- A run of `m + n` steps is a run of `m` steps and then one of `n`. -/
theorem run_add {s t : State} {m : Nat} (n : Nat) (h : run m s = .next t) : run (m + n) s = run n t := by
  induction m generalizing s with
  | zero =>
    simp only [run_zero, Host.Outcome.next.injEq] at h
    rw [Nat.zero_add, h]
  | succ m ih =>
    cases hs : step s with
    | next s' =>
      rw [run_succ m hs] at h
      rw [Nat.add_right_comm, run_succ _ hs]
      exact ih h
    | fault r => exact nomatch r
    | refused r =>
      have : run (m + 1) s = .refused r := core_run_refused Sys2Proof.core m hs
      rw [this] at h
      exact nomatch h

end Sys2Proof.Machine
end

