-- ==== Sys2Proof/Laws/PerInstr.lean ====
section
/-! SUPPORT. Facts about every command as syntax, one lemma per constructor. -/

namespace Sys2Proof.Laws.EncodedWord

/-- R80 to R83: the command word of an instruction passes the word checks, and its instruction is well formed. -/
def Statement (i : Instr) : Prop := CommandWord.wf (encode i) = true ∧ i.wf = true

theorem init : Statement .init := ⟨by decide, rfl⟩
theorem encrypt : Statement .encrypt := ⟨by decide, rfl⟩
theorem expKey : Statement .expKey := ⟨by decide, rfl⟩
theorem expSalt : Statement .expSalt := ⟨by decide, rfl⟩
theorem sExpKey : Statement .sExpKey := ⟨by decide, rfl⟩
theorem setup : Statement .setup := ⟨by decide, rfl⟩
theorem digest : Statement .digest := ⟨by decide, rfl⟩
theorem bcrypt : Statement .bcrypt := ⟨by decide, rfl⟩
theorem zeroize : Statement .zeroize := ⟨by decide, rfl⟩

end Sys2Proof.Laws.EncodedWord
end

