-- ==== Sys2Proof/Tests/Slice0.lean ====
section
/-! SUPPORT. Tests and witnesses. The expected values of the tests are those of spec/95_test_vectors.md and of the rules each theorem names;
each `witness_` theorem shows a state and operands that meet the hypotheses of the obligation it is named after. -/

namespace Sys2Proof.Tests

open Sys2Proof.Machine

-- One test at a time: each kernel evaluation waits for the proofs before it, and dozens waiting at once need dozens of threads.
set_option Elab.async false

/-- A state with the reset values, given what the host does next. -/
def fresh (es : List Event) : State := { State.reset with events := es }

/-- A state in which every command is accepted: TV = 1, COST = 4, KEYLEN = 4. -/
def armed (es : List Event) : State := { fresh es with tv := true, cost := 4, keylen := 4 }

/-- The same with command `i` running. -/
def running (i : Instr) (es : List Event) : State :=
  { armed es with busy := true, cur := some i, lastOp := opcode i }

/-- STATUS after one step. -/
def statusAfter (s : State) : Word :=
  match step s with
  | .next t => statusWord t
  | _ => 0xFFFFFFFF

/-- The data of the newest read after `n` steps. -/
def readAfter (n : Nat) (s : State) : Option Word :=
  match run n s with
  | .next t => t.reads.head?.map Reply.data
  | _ => none

/-! ### Words of the opcode map (spec/30_encoding.md R81) -/

theorem test_decode_init : decodeTableWord 32 0x00000001 = some .init := by decide
theorem test_decode_encrypt : decodeTableWord 32 0x00000002 = some .encrypt := by decide
theorem test_decode_expKey : decodeTableWord 32 0x00000003 = some .expKey := by decide
theorem test_decode_expSalt : decodeTableWord 32 0x00000004 = some .expSalt := by decide
theorem test_decode_sExpKey : decodeTableWord 32 0x00000005 = some .sExpKey := by decide
theorem test_decode_setup : decodeTableWord 32 0x00000006 = some .setup := by decide
theorem test_decode_digest : decodeTableWord 32 0x00000007 = some .digest := by decide
theorem test_decode_bcrypt : decodeTableWord 32 0x00000008 = some .bcrypt := by decide
theorem test_decode_zeroize : decodeTableWord 32 0x00000009 = some .zeroize := by decide

/-! ### Ill-formed words, one for each check of WellFormed (R82, R83, R172) -/

theorem test_reserved_bit_4 : wordFault 0x00000011 = some .reservedBits ∧ CommandWord.wf 0x00000011 = false := by decide
theorem test_reserved_bit_31 : wordFault 0x80000001 = some .reservedBits := by decide
theorem test_reserved_bits_first : wordFault 0xFFFFFFF0 = some .reservedBits := by decide
theorem test_reserved_opcode_zero : wordFault 0x00000000 = some .reservedOpcode := by decide
theorem test_reserved_opcode_A : wordFault 0x0000000A = some .reservedOpcode := by decide
theorem test_reserved_opcode_F : wordFault 0x0000000F = some .reservedOpcode := by decide
theorem test_wellFormed_nine : wordFault 0x00000009 = none := by decide
theorem test_decode_rejects : decode 0x00000011 = .error .reservedBits ∧ decode 0x0000000A = .error .reservedOpcode := by
  decide

/-! ### Constants (spec/10_state.md R39) -/

theorem test_rom_p : piP[0] = 0x243F6A88 ∧ piP[17] = 0x8979FB1B := by decide
theorem test_rom_s0 : piS[0][0] = 0xD1310BA6 ∧ piS[0][255] = 0x6E85076A := by decide +kernel
theorem test_rom_s1 : piS[1][0] = 0x4B7A70E9 ∧ piS[1][255] = 0xDB83ADF7 := by decide +kernel
theorem test_rom_s2 : piS[2][0] = 0xE93D5A68 ∧ piS[2][255] = 0x406000E0 := by decide +kernel
theorem test_rom_s3 : piS[3][0] = 0x3A39CE37 ∧ piS[3][255] = 0x3AC372E6 := by decide +kernel

/-! ### The cipher (spec/95_test_vectors.md 2.1, 2.2) -/

theorem test_f_zero : fFun piS 0x00000000 = 0x2FCFF51E := by decide +kernel
theorem test_f_ones : fFun piS 0xFFFFFFFF = 0x452C2867 := by decide +kernel
theorem test_f_bytes : fFun piS 0x01020304 = 0x3CEDFF8C := by decide +kernel
theorem test_f_wraps : fFun piS 0x80000001 = 0xB75E1054 := by decide +kernel
theorem test_round_zero : Machine.round piP piS 0 ⟨0, 0⟩ = ⟨0xDB2F9C4E, 0x243F6A88⟩ := by decide +kernel
theorem test_encrypt_zero : bfEnc piP piS ⟨0, 0⟩ = ⟨0x706D9FCC, 0x1792D23A⟩ := by decide +kernel
theorem test_encrypt_block : bfEnc piP piS ⟨0x01234567, 0x89ABCDEF⟩ = ⟨0x738E078D, 0x4C8703A6⟩ := by decide +kernel
theorem test_encrypt_equal_halves : bfEnc piP piS ⟨0x12345678, 0x12345678⟩ = ⟨0x56551158, 0xBDBFF081⟩ := by
  decide +kernel

/-! ### Streams (spec/95_test_vectors.md 2.3, spec/41_key_schedule.md R120) -/

/-- The bytes 01 02 03 04 05. -/
def fiveBytes (n : Nat) : Byte := BitVec.ofNat 8 (n + 1)

theorem test_stream_first : stream fiveBytes 5 0 = (0x01020304, 4) := by decide
theorem test_stream_wraps : stream fiveBytes 5 4 = (0x05010203, 3) := by decide
theorem test_stream_at_end : (stream fiveBytes 5 5).1 = 0x01020304 := by decide
theorem test_stream_one_byte : (stream (fun _ => 0xAB) 1 0).1 = 0xABABABAB := by decide

/-! ### Key schedule and digest (spec/95_test_vectors.md 2.2, 2.4) -/

/-- The engine after INIT. -/
def afterInit : Engine := { Engine.atReset with p := piP, s := piS }

theorem test_expKey_mix : (keymix fiveBytes 5 afterInit).p[1] = 0x85A308D3 ^^^ 0x05010203 := by decide +kernel
theorem test_V_EK1_first_words :
    let e := storeP 0 (encryptRb (keymix (fun _ => 0) 8 afterInit))
    e.p[0] = 0x706D9FCC ∧ e.p[1] = 0x1792D23A ∧ e.p[2] = 0x13198A2E := by decide +kernel

/-- The salt of V-SX1. -/
def saltSX1 : SaltRegs := #v[0x10410410, 0x41041041, 0x04104104, 0x10410410]

theorem test_V_SX1_salt_halves :
    let e := { Engine.atReset with spos := 0 }
    (xorSalt (saltByte saltSX1) e).rb = ⟨0x10410410, 0x41041041⟩ ∧
      (xorSalt (saltByte saltSX1) { xorSalt (saltByte saltSX1) e with rb := ⟨0, 0⟩ }).rb = ⟨0x04104104, 0x10410410⟩ := by
  decide +kernel
theorem test_expSalt_words : (stream (saltByte saltSX1) 16 12).1 = 0x10410410 := by decide +kernel
theorem test_digest_first_encryption :
    ((digestStep piP piS 0 (magic, 0)).1[0], (digestStep piP piS 0 (magic, 0)).1[1]) = (0xA22420CF, 0x2AD3EF8A) := by
  decide +kernel

/-! ### Acceptance and errors (spec/95_test_vectors.md 2.6) -/

theorem test_V_E1_encrypt : statusAfter (State.reset.withFetchWord 32 0x2) = 0x00000242 := by decide +kernel
theorem test_V_E2_setup : statusAfter ({ State.reset with cost := 3, keylen := 4 }.withFetchWord 32 0x6) = 0x00000622 := by
  decide +kernel
theorem test_V_E3_setup : statusAfter ({ State.reset with cost := 4 }.withFetchWord 32 0x6) = 0x00000632 := by
  decide +kernel
theorem test_V_E4_bcrypt : statusAfter ({ State.reset with cost := 4, keylen := 73 }.withFetchWord 32 0x8) = 0x00000832 := by
  decide +kernel
theorem test_V_E5_bcrypt : statusAfter (State.reset.withFetchWord 32 0x8) = 0x00000822 := by decide +kernel
theorem test_V_E6_expKey : statusAfter ({ State.reset with keylen := 73 }.withFetchWord 32 0x3) = 0x00000332 := by
  decide +kernel
theorem test_V_E7_expSalt : statusAfter (State.reset.withFetchWord 32 0x4) = 0x00000442 := by decide +kernel
theorem test_V_E8_zero_word : statusAfter (State.reset.withFetchWord 32 0x0) = 0x00000012 := by decide +kernel
theorem test_V_E9_opcode_A : statusAfter (State.reset.withFetchWord 32 0xA) = 0x00000A12 := by decide +kernel
theorem test_V_E10_reserved_bit : statusAfter (State.reset.withFetchWord 32 0x11) = 0x00000112 := by decide +kernel
theorem test_V_E12_zeroize_accepted : statusAfter (State.reset.withFetchWord 32 0x9) = 0x00000901 := by decide +kernel
theorem test_V_E12_zeroize_done : statusAfter { running .zeroize [] with tv := false } = 0x00000902 := by decide +kernel
theorem test_V_E13_init_accepted : statusAfter (State.reset.withFetchWord 32 0x1) = 0x00000101 := by decide +kernel
theorem test_V_E13_init_done : statusAfter { running .init [] with tv := false } = 0x00000106 := by decide +kernel
theorem test_V_E14_busy_command : statusAfter (running .setup [cmd .init]) = 0x00000655 := by decide +kernel
theorem test_V_E16_busy_reserved : statusAfter (running .setup [.write 0x148 0x12345678]) = 0x00000605 := by decide +kernel
theorem test_V_E18_status_write : statusAfter (armed [.write 0x004 0xFFFFFFFF]) = 0x00000004 := by decide +kernel
theorem test_zeroize_then_digest : statusAfter (State.reset.withFetchWord 32 0x7) = 0x00000742 := by decide +kernel

/-! ### Registers and offsets (spec/95_test_vectors.md 2.7) -/

theorem test_V_M1 : readAfter 1 { armed [.read 0x100] with eng := { Engine.atReset with p := piP } } = some 0x243F6A88 := by
  decide +kernel
theorem test_V_M7 : readAfter 1 { armed [.read 0x1FFC] with eng := { Engine.atReset with s := piS } } = some 0x3AC372E6 := by
  decide +kernel
theorem test_V_M10_tables_unset : readAfter 1 { fresh [.read 0x100] with eng := { Engine.atReset with p := piP } } = some 0 := by
  decide +kernel
theorem test_V_M14_cost : readAfter 2 (fresh [.write 0x008 0xFFFFFFFF, .read 0x008]) = some 0x0000001F := by decide +kernel
theorem test_V_M15_keylen : readAfter 2 (fresh [.write 0x00C 0xFFFFFFFF, .read 0x00C]) = some 0x0000007F := by decide +kernel
theorem test_V_M16_keylen : readAfter 2 (fresh [.write 0x00C 0x000000C8, .read 0x00C]) = some 0x00000048 := by decide +kernel
theorem test_V_M17_key_bytes :
    (List.range 4).map (fun n => keyByte (Vector.replicate 18 (0 : Word) |>.set 1 0x41424344) (4 + n)) =
      [0x41, 0x42, 0x43, 0x44] := by decide
theorem test_digest_bytes :
    let d : DigestRegs := #v[0x1BB69143, 0xF9A8D304, 0xC8D23D99, 0xAB049A77, 0xA68E2CCC, 0x744206BB]
    digestByte d 0 = 0x1B ∧ digestByte d 3 = 0x43 ∧ digestByte d 4 = 0xF9 ∧ digestByte d 23 = 0xBB := by decide
theorem test_host_key_buffer :
    hostKeyBuffer [0x55, 0x2A, 0x55] = some [0x55, 0x2A, 0x55, 0x00] ∧ hostKeyBuffer [] = some [0x00] ∧
    hostKeyBuffer [0x41, 0x00] = none := by decide

/-- The run of a program on a core after a list of turns, seen through `f`. -/
def afterTurns {α : Type} (f : HostRun → α) (turns : List Turn) (ops : List HostOp) (s : State) : Option α :=
  match playTurns turns (startRun ops s) with
  | .next h => some (f h)
  | _ => none

/-- R89: WAIT reads STATUS until BUSY = 0, so the second command is not dropped (V-E13, V-E12). -/
theorem test_cmd_wait_cmd :
    afterTurns (fun h => (h.replies.reverse.map Reply.data, h.todo, failedRun h))
        [.host, .host, .host, .core, .host, .host, .core, .host] [.cmd .init, .wait, .cmd .zeroize, .wait] State.reset =
      some ([0x00000101, 0x00000101, 0x00000106, 0x00000902], [], false) := by decide +kernel

/-- R89: on an idle core, and after a rejection, WAIT's loop makes one read (V-E1); the CHECK then fails the run. -/
theorem test_run_rejected :
    afterTurns (fun h => (h.replies.reverse.map Reply.data, h.todo, h.checkFailed)) [.host, .host, .host] [.run .encrypt]
        State.reset =
      some ([0x00000242, 0x00000242], [], true) := by decide +kernel

/-- R210: a run that ends in RD has ended while a command runs, one that ends in CMD has not. -/
theorem test_run_ended :
    afterTurns runEnded [.host, .host] [.cmd .zeroize, .rd .status] State.reset = some true ∧
      afterTurns runEnded [.host] [.cmd .zeroize] State.reset = some false ∧
      afterTurns runEnded [.host, .core] [.cmd .zeroize] State.reset = some true ∧
      afterTurns runEnded [.host] [.wr .ctrl 9] State.reset = some false ∧
      afterTurns runEnded [] [.rd .status] State.reset = some false := by decide +kernel

/-- notes/assumptions/21.md: a rejection from before the run's first operation does not make it a failed one. -/
theorem test_run_history_begins_at_the_run :
    afterTurns failedRun [.host] [.rd .status] { State.reset with history := [.rejected .illegal 0] } = some false := by
  decide +kernel

/-- R210 (notes/assumptions/23.md): the registers at the end of a run of ZEROIZE, and what is hidden before it ends (V-E12). -/
theorem test_run_final_registers :
    afterTurns (fun h => (observation h).2) [.host, .core] [.cmd .zeroize] State.reset =
        some ⟨0x00000902, 0, 0, Vector.replicate 4 0, Vector.replicate 18 0, some ⟨0, 0⟩, some (Vector.replicate 6 0), none⟩ ∧
      afterTurns (fun h => (observation h).2.blk) [.host] [.cmd .zeroize] State.reset = some none := by decide +kernel

/-- R51, R52: the register at each edge of the map. -/
theorem test_register_map_edges :
    [0x000, 0x004, 0x008, 0x00C, 0x010, 0x01C, 0x020, 0x064, 0x068, 0x07C, 0x080, 0x084].map
        (fun n => regAt (BitVec.ofNat 13 n)) =
      [.ctrl, .status, .cost, .keylen, .salt 0, .salt 3, .key 0, .key 17, .reserved, .reserved, .blkL, .blkR] := by decide

theorem test_register_map_edges_high :
    [0x088, 0x08C, 0x090, 0x0A4, 0x0A8, 0x0FC, 0x100, 0x103, 0x144, 0x148, 0xFFC, 0x1000, 0x13FC, 0x1400, 0x1FFF].map
        (fun n => regAt (BitVec.ofNat 13 n)) =
      [.reserved, .reserved, .digest 0, .digest 5, .reserved, .reserved, .p 0, .p 0, .p 17, .reserved, .reserved,
       .s 0 0, .s 0 255, .s 1 0, .s 3 255] := by decide

/-! ### Witnesses of the obligations' hypotheses -/

theorem witness_RegisterMapRoundTrip : Reg.s 3 255 ≠ .reserved ∧ regAt 0xFFC = .reserved ∧ regAt 0x1000 ≠ .reserved := by
  decide

theorem witness_IdleReadReturnsRegister :
    (armed [.read 0x144]).resetPin = false ∧ (armed [.read 0x144]).busy = false ∧
      (armed [.read 0x144]).events = .read 0x144 :: [] := by decide

theorem witness_BusyReadExactOrUnspecified :
    (running .setup [.read 0x004]).resetPin = false ∧ (running .setup [.read 0x004]).busy = true ∧
      (running .setup [.read 0x004]).events = .read 0x004 :: [] ∧
      Spec.exactWhileBusy (regAt 0x004) = true ∧ Spec.exactWhileBusy (regAt 0x080) = false := by decide

theorem witness_TableReadBack :
    (armed [.read 0x144]).resetPin = false ∧ (armed [.read 0x144]).busy = false ∧
      (armed [.read 0x144]).events = .read (BitVec.ofNat 13 (0x100 + 4 * (17 : Fin 18).val)) :: [] ∧
      (armed [.read 0x1FFC]).events =
        .read (BitVec.ofNat 13 (4 * (0x400 + 256 * (3 : Fin 4).val + (255 : Fin 256).val))) :: [] := by decide

theorem witness_ReadAfterIdleWrite :
    (armed [.write 0x008 0x1F, .read 0x008]).resetPin = false ∧ (armed [.write 0x008 0x1F, .read 0x008]).busy = false ∧
      regAt 0x008 ≠ .ctrl ∧ (armed [.write 0x008 0x1F, .read 0x008]).events = .write 0x008 0x1F :: .read 0x008 :: [] ∧
      Spec.isInput (regAt 0x008) = true ∧ Spec.isInput (regAt 0x004) = false := by decide

theorem witness_IdleWriteFrame :
    (armed [.write 0x148 1]).resetPin = false ∧ (armed [.write 0x148 1]).busy = false ∧ regAt 0x148 ≠ .ctrl ∧
      (armed [.write 0x148 1]).events = .write 0x148 1 :: [] := by decide

theorem witness_BusyInputWriteDropped :
    (running .setup [.write 0x020 1]).resetPin = false ∧ (running .setup [.write 0x020 1]).busy = true ∧
      (running .setup [.write 0x020 1]).events = .write 0x020 1 :: [] ∧ Spec.isInput (regAt 0x020) = true ∧
      Spec.isInput (regAt 0x004) = false ∧ regAt 0x004 ≠ .ctrl := by decide

theorem witness_BusyCommandLost :
    (running .setup [cmd .init, .engine]).resetPin = false ∧ (running .setup [cmd .init, .engine]).busy = true ∧
      (running .setup [cmd .init, .engine]).cur = some .setup ∧ regAt 0x000 = .ctrl ∧
      (running .setup [cmd .init, .engine]).events = .write 0x000 1 :: .engine :: [] := by decide

theorem witness_TablesChangeOnlyByCommand :
    ∃ t, step (running .init []) = .next t ∧ t.eng.p ≠ (running .init []).eng.p := by
  refine ⟨complete (initEffect (running .init [])), ?_, by decide +kernel⟩
  exact exec_running (i := .init) (s := running .init []) rfl rfl

theorem witness_CtrlWriteFollowsPseudocode :
    (armed [.write 0x000 8]).resetPin = false ∧ regAt 0x000 = .ctrl ∧
      (armed [.write 0x000 8]).events = .write 0x000 8 :: [] ∧ (armed [.write 0x000 8]).busy = false ∧
      Spec.check 8 (armed [.write 0x000 8]) = .none := by decide

/-- `StatusFieldsHaveCauses`: a rejection raises DONE and ERR. -/
theorem witness_StatusFieldsHaveCauses :
    ∃ t, step (fresh [.write 0x000 0]) = .next t ∧ t.done ≠ (fresh []).done ∧ t.err ≠ (fresh []).err := by
  refine ⟨reject .illegal 0 (fresh []), rfl, by decide, by decide⟩

theorem witness_StatusFieldsHaveCauses_tv :
    ∃ t, step (running .zeroize []) = .next t ∧ t.tv ≠ (running .zeroize []).tv ∧ t.busy ≠ (running .zeroize []).busy :=
  ⟨complete (zeroizeEffect (running .zeroize [])), exec_running (i := .zeroize) (s := running .zeroize []) rfl rfl,
    by simp [running, armed], by simp [running]⟩

theorem witness_ReadyCommandAccepted : ∀ i : Instr, (armed []).busy = false ∧ Spec.ready i (armed []) := by
  intro i; cases i <;> exact ⟨rfl, by simp [Spec.ready, armed]⟩

theorem witness_IllegalWordRejected :
    (fresh [.write 0x003 0x11]).resetPin = false ∧ (fresh [.write 0x003 0x11]).busy = false ∧ regAt 0x003 = .ctrl ∧
      (fresh [.write 0x003 0x11]).events = .write 0x003 0x11 :: [] ∧ (0x11 : Word).extractLsb' 4 28 ≠ 0 ∧
      (0x10 : Word).extractLsb' 0 4 = 0 ∧ 0xA ≤ ((0xA : Word).extractLsb' 0 4).toNat := by decide

theorem witness_CostErrorExactly :
    (fresh []).busy = false ∧ (fresh []).cost.toNat ∈ [0, 1, 2, 3] ∧ (armed []).cost.toNat ∉ [0, 1, 2, 3] := by decide

theorem witness_KeyLengthErrorExactly :
    (fresh []).busy = false ∧ (fresh []).keylen = 0 ∧ 73 ≤ ({ armed [] with keylen := 73 }).keylen.toNat ∧
      4 ≤ (armed []).cost.toNat := by decide

theorem witness_NoTablesErrorExactly :
    (fresh []).busy = false ∧ (fresh []).tv = false ∧ 1 ≤ ({ fresh [] with keylen := 72 }).keylen.toNat ∧
      ({ fresh [] with keylen := 72 }).keylen.toNat ≤ 72 := by decide

/-- The hypotheses of the nine completion statements and of `EngineTurnRunsMeaning`. -/
theorem witness_Completes : ∀ i : Instr,
    (running i []).busy = true ∧ (running i []).cur = some i ∧ (running i []).events = [] ∧
      (running i [.engine]).events = .engine :: [] := fun _ => ⟨rfl, rfl, rfl, rfl⟩

/-- The hypotheses of `CommandWriteSets` and `EncryptionCounts`. -/
theorem witness_CommandWriteSets : ∀ i : Instr, ∃ t, exec i (running i []) = .next t := by
  intro i
  exact ⟨_, exec_running rfl rfl⟩

theorem witness_CommandWriteSets_tv : ∃ t, exec .zeroize (running .zeroize []) = .next t ∧ t.tv ≠ (running .zeroize []).tv :=
  ⟨complete (zeroizeEffect (running .zeroize [])), exec_running rfl rfl, by simp [running, armed]⟩

theorem witness_StreamClosedForm : (1 : Nat) ≤ 5 ∧ (0 : Nat) ≤ 5 ∧ (5 : Nat) ≤ 5 := by decide

/-- The hypotheses of `KeymixXorsStream` and `SaltHalvesAlternate`, at both ends of the range. -/
theorem witness_KeymixXorsStream : (1 ≤ 1 ∧ 1 ≤ 72) ∧ (1 ≤ 72 ∧ 72 ≤ 72) := by decide

theorem witness_ZeroSaltIsUnsalted : ∀ n, n < 16 → saltByte (Vector.replicate 4 0) n = 0 := by decide

/-- R132's own example: 41 42 with length 2, and 41 42 41 42 with length 4. -/
theorem witness_KeyPeriodIdentity :
    ∀ n, n < 72 → (fun m => if m % 2 = 0 then (0x41 : Byte) else 0x42) (n % 2) =
      (fun m => if m = 0 ∨ m = 2 then (0x41 : Byte) else 0x42) (n % 4) := by decide

theorem witness_ScheduleDependsOnInputsOnly :
    (∀ n, n < 16 → saltByte (Vector.replicate 4 7) n = (fun n => if n < 16 then saltByte (Vector.replicate 4 7) n else 1) n) ∧
      ∀ n, n < 3 → fiveBytes n = (fun n => if n < 3 then fiveBytes n else 0) n := by decide

/-- The hypotheses of `SetupEqualsCommandSequence` and `BcryptEqualsSetupThenDigest`. -/
theorem witness_SetupEqualsCommandSequence :
    (armed []).resetPin = false ∧ (armed []).busy = false ∧ Spec.ready .setup (armed []) ∧ Spec.ready .bcrypt (armed []) := by
  refine ⟨rfl, rfl, ?_, ?_⟩ <;> simp [Spec.ready, armed]

/-- Two states that differ in the tables and in a key byte past KEYLEN. -/
theorem witness_BcryptDeterminedByInputs :
    let s := running .bcrypt []
    let s' := { s with eng := { s.eng with p := piP }, key := s.key.set 1 0xFFFFFFFF }
    s.busy = true ∧ s.cur = some .bcrypt ∧ s'.busy = true ∧ s'.cur = some .bcrypt ∧ s.cost = s'.cost ∧
      s.keylen = s'.keylen ∧ s.salt = s'.salt ∧ 1 ≤ s.keylen.toNat ∧ s.keylen.toNat ≤ 72 ∧
      (∀ n, n < s.keylen.toNat → keyByte s.key n = keyByte s'.key n) ∧
      (∃ t, exec .bcrypt s = .next t) ∧ (∃ t', exec .bcrypt s' = .next t') :=
  ⟨rfl, rfl, rfl, rfl, rfl, rfl, rfl, by decide, by decide, by decide,
    ⟨_, exec_running rfl rfl⟩, ⟨_, exec_running rfl rfl⟩⟩

theorem witness_LoadKeyWritesKeyBytes :
    (fresh (loadKey [0x55])).resetPin = false ∧ (fresh (loadKey [0x55])).busy = false ∧
      1 ≤ ([0x55] : List Byte).length ∧ (List.replicate 72 (0x55 : Byte)).length ≤ 72 ∧
      (fresh (loadKey [0x55])).events = loadKey [0x55] := by decide

/-- The clauses of `LoadKeyWritesKeyBytes` at their edges: one byte leaves three positions of the first word and the words
from the second on; 72 bytes leave neither. -/
theorem witness_LoadKeyWritesKeyBytes_edges :
    1 ≤ 3 ∧ 3 < 4 * ((1 + 3) / 4) ∧ (1 + 3) / 4 ≤ (1 : Fin 18).val ∧ ¬ 72 < 4 * ((72 + 3) / 4) ∧
      ¬ (72 + 3) / 4 ≤ (17 : Fin 18).val := by decide

theorem witness_CommandWriteRunsMeaning :
    (fresh [cmd .bcrypt]).resetPin = false ∧ (fresh [cmd .bcrypt]).busy = false ∧ regAt 0x000 = .ctrl ∧
      decode 8 = .ok .bcrypt ∧ (fresh [cmd .bcrypt]).events = .write 0x000 8 :: [] := by decide

/-- The hypotheses of `StepKeepsInvariant` and `CommandsComplete`, with a command running. -/
theorem witness_StepKeepsInvariant : (running .setup []).Inv ∧ ∃ t, step (running .setup []) = .next t :=
  ⟨by decide +kernel, _, exec_running (i := .setup) (s := running .setup []) rfl rfl⟩

/-- Two states that differ in the unset tables, one step from a read of P[0]. -/
theorem witness_UnsetTablesInvisible :
    let s := fresh [.read 0x100]
    let t := { s with eng := { s.eng with p := piP } }
    s.Inv ∧ hostEquiv s t ∧ (∃ s', step s = .next s') ∧ ∃ t', step t = .next t' :=
  ⟨by decide +kernel, ⟨rfl, by simp [fresh, State.reset]⟩, ⟨_, rfl⟩, ⟨_, rfl⟩⟩

theorem witness_ResetOverridesEverything : (running .setup [.assertReset]).events = .assertReset :: [] := rfl

theorem witness_AssertedResetIgnoresHost :
    let s := { fresh [] with resetPin := true }
    s.resetPin = true ∧ { s with events := [.read 0x004] }.events = .read 0x004 :: [] ∧
      { s with events := [.write 0x000 1] }.events = .write 0x000 1 :: [] ∧
      { s with events := [.releaseReset] }.events = .releaseReset :: [] := by decide

theorem witness_ReadsAndIdleTurnsChangeNothing :
    (∃ t, step (running .setup [.read 0x090]) = .next t) ∧ (fresh []).busy = false ∧ (fresh []).events = [] ∧
      (∃ t, step (fresh []) = .next t) ∧ (fresh [.engine]).events = .engine :: [] :=
  ⟨⟨_, rfl⟩, rfl, rfl, ⟨_, rfl⟩, rfl⟩

theorem witness_InputsFrozenWhileBusy :
    ∃ t, step (running .setup [.write 0x020 0xDEADBEEF]) = .next t ∧ (running .setup []).busy = true ∧ t.busy = true :=
  ⟨_, rfl, rfl, rfl⟩

theorem witness_ResultFixedAtAcceptance :
    (armed []).resetPin = false ∧ (armed []).busy = false ∧ Spec.ready .expKey (armed []) ∧
      ∀ e ∈ [Event.read 0x090, .write 0x020 0xDEADBEEF],
        (∃ off, e = .read off) ∨ (∃ off v, e = .write off v) := by
  refine ⟨rfl, rfl, by simp [Spec.ready, armed], ?_⟩
  simp

theorem witness_HistoryNeverCleared : ∃ t, step (State.reset.withFetchWord 32 0) = .next t ∧ t.history ≠ [] :=
  ⟨_, rfl, by decide⟩

end Sys2Proof.Tests
end

-- ==== Proofs: the words of KEY, SALT and DIGEST and their bytes ====
section
namespace Sys2Proof.Machine

/-! ### Bytes of words

Each register file numbers its bytes through: byte `4 * j + b` is byte `b` of word `j`. So the words are the `be32` of
their bytes once `be32` is known to put a word's own bytes together again. -/

/-- R9: `be32` of the four bytes of a word is the word; with `byteOf_be32`, the two are inverse. -/
theorem be32_byteOf (w : Word) : be32 (byteOf w 0) (byteOf w 1) (byteOf w 2) (byteOf w 3) = w := by
  ext i hi
  have : i < 32 := hi
  interval_cases i <;> simp [byteOf, be32]

/-- R9: four bytes that are those of `w`, most significant first, make `w`. -/
theorem be32_eq_of_bytes {w : Word} {b0 b1 b2 b3 : Byte} (h0 : b0 = byteOf w 0) (h1 : b1 = byteOf w 1)
    (h2 : b2 = byteOf w 2) (h3 : b3 = byteOf w 3) : be32 b0 b1 b2 b3 = w := by
  rw [h0, h1, h2, h3, be32_byteOf]

/-- R28: key byte `4 * j + b` is byte `b` of `KEY[j]`. -/
theorem keyByte_four_mul_add (key : KeyRegs) (j : Fin 18) (b : Fin 4) :
    keyByte key (4 * j.val + b.val) = byteOf key[j] b.val := by
  have hlt : 4 * j.val + b.val < 72 := by omega
  have hdiv : (4 * j.val + b.val) / 4 = j.val := by omega
  have hmod : (4 * j.val + b.val) % 4 = b.val := by omega
  simp [keyByte, hlt, hdiv, hmod]

/-- R29: salt byte `4 * j + b` is byte `b` of `SALT[j]`. -/
theorem saltByte_four_mul_add (salt : SaltRegs) (j : Fin 4) (b : Fin 4) :
    saltByte salt (4 * j.val + b.val) = byteOf salt[j] b.val := by
  have hlt : 4 * j.val + b.val < 16 := by omega
  have hdiv : (4 * j.val + b.val) / 4 = j.val := by omega
  have hmod : (4 * j.val + b.val) % 4 = b.val := by omega
  simp [saltByte, hlt, hdiv, hmod]

/-- R31, R155: digest output byte `4 * j + b` is byte `b` of `DIGEST[j]`. -/
theorem digestByte_four_mul_add (digest : DigestRegs) (j : Fin 6) (b : Fin 4) :
    digestByte digest (Fin.ofNat 24 (4 * j.val + b.val)) = byteOf digest[j] b.val := by
  have hval : (4 * j.val + b.val) % 24 = 4 * j.val + b.val := by omega
  have hdiv : (4 * j.val + b.val) / 4 = j.val := by omega
  have hmod : (4 * j.val + b.val) % 4 = b.val := by omega
  simp [digestByte, hval, hdiv, hmod]

/-- Settles O20: byte `4 * j + b` of each register file is byte `b` of its word `j`, and `be32` undoes the cut of a word
into bytes. -/
theorem registersAreBigEndianBytes : Obligations.RegistersAreBigEndianBytes := by
  refine ⟨fun key j => ?key, fun salt j => ?salt, fun digest j => ?digest⟩
  case key =>
    have hb := keyByte_four_mul_add key j
    exact (be32_eq_of_bytes (hb 0) (hb 1) (hb 2) (hb 3)).symm
  case salt =>
    have hb := saltByte_four_mul_add salt j
    exact (be32_eq_of_bytes (hb 0) (hb 1) (hb 2) (hb 3)).symm
  case digest =>
    have hb := digestByte_four_mul_add digest j
    exact (be32_eq_of_bytes (hb 0) (hb 1) (hb 2) (hb 3)).symm

end Sys2Proof.Machine
end

-- ==== Proofs: the invariant of the state ====
section
namespace Sys2Proof.Machine

/-! ### The invariant, clause by clause -/

theorem statusLegal_iff {s : State} : statusLegal s = true ↔ (s.busy = true → s.done = false) := by
  cases hb : s.busy <;> simp [statusLegal, hb]

theorem curMatchesBusy_iff {s : State} : curMatchesBusy s = true ↔ s.busy = s.cur.isSome := by
  simp [curMatchesBusy]

theorem acceptedCommand_iff {s : State} :
    acceptedCommand s = true ↔
      ∀ i, s.cur = some i → commandCheck i s = .none ∧ s.lastOp = opcode i ∧ (s.err = .none ∨ s.err = .busy) := by
  unfold acceptedCommand
  cases hc : s.cur <;> simp [and_assoc]

theorem errRecorded_iff {s : State} :
    errRecorded s = true ↔ s.err = .none ∨ s.history.head?.map Report.code = some s.err := by
  simp [errRecorded]

theorem resetHolds_iff {s : State} : resetHolds s = true ↔ (s.resetPin = true → atResetValues s = true) := by
  cases hp : s.resetPin <;> simp [resetHolds, hp]

/-- R200: the register values under an asserted reset input leave the core idle. -/
theorem atResetValues_busy {s : State} (h : atResetValues s = true) : s.busy = false := by
  simp only [atResetValues, Bool.and_eq_true, Bool.not_eq_true'] at h
  tauto

/-- R200: a core that runs a command is out of reset. -/
theorem State.Inv.resetPin_of_busy {s : State} (h : s.Inv) (hb : s.busy = true) : s.resetPin = false := by
  obtain ⟨-, -, -, -, hreset⟩ := h
  by_contra hpin
  have hidle := atResetValues_busy (resetHolds_iff.mp hreset (by simpa using hpin))
  simp [hb] at hidle

/-- R34: an idle core has no command in CUR. -/
theorem State.Inv.cur_of_idle {s : State} (h : s.Inv) (hb : s.busy = false) : s.cur = none := by
  obtain ⟨-, hcur, -⟩ := h
  simpa [hb] using curMatchesBusy_iff.mp hcur

/-- An idle core out of reset has only its error to answer for. -/
theorem State.Inv.of_idle {s : State} (hpin : s.resetPin = false) (hbusy : s.busy = false) (hcur : s.cur = none)
    (herr : errRecorded s = true) : s.Inv := by
  refine ⟨?_, ?_, ?_, herr, ?_⟩
  · simp [statusLegal_iff, hbusy]
  · simp [curMatchesBusy_iff, hbusy, hcur]
  · simp [acceptedCommand_iff, hcur]
  · simp [resetHolds_iff, hpin]

/-- The waiting events, the reads, the free values used and the engine's registers are outside the invariant. -/
theorem State.Inv.update_untracked {s : State} (h : s.Inv) (eng : Engine) (counters : Counters) (events : List Event)
    (reads : List Reply) (draws : Nat) :
    State.Inv { s with eng := eng, counters := counters, events := events, reads := reads, draws := draws } :=
  h

/-! ### The invariant, operation by operation -/

theorem State.Inv.popped {s : State} (h : s.Inv) : (popped s).Inv := h.update_untracked _ _ _ _ _

theorem State.Inv.hostRead {s : State} (h : s.Inv) (off : Offset) : (hostRead off s).Inv := by
  rw [hostRead_frame]
  exact h.update_untracked _ _ _ _ _

/-- R179: completion leaves the core idle with the error it showed. -/
theorem State.Inv.completed {s : State} (h : s.Inv) (i : Instr) (hb : s.busy = true) :
    (complete (effectOf i s)).Inv := by
  have hpin := h.resetPin_of_busy hb
  obtain ⟨-, -, -, herr, -⟩ := h
  exact .of_idle (by simpa using hpin) rfl rfl (by simpa [errRecorded_iff] using herr)

/-- R170: a rejection leaves the core idle, and its code is in the newest history entry. -/
theorem State.Inv.rejected {s : State} (h : s.Inv) (code : Err) (word : Word) (hpin : s.resetPin = false)
    (hb : s.busy = false) : (reject code word s).Inv :=
  .of_idle hpin hb (h.cur_of_idle hb) (errRecorded_iff.mpr (.inr rfl))

/-- R170: an accepted command is in CUR, passes its checks and has cleared DONE and ERR. -/
theorem State.Inv.accepted {s : State} {i : Instr} (hpin : s.resetPin = false) (passes : commandCheck i s = .none) :
    (accept i s).Inv := by
  have hcheck : commandCheck i (accept i s) = .none := (commandCheck_congr rfl rfl rfl).trans passes
  refine ⟨?_, ?_, ?_, ?_, ?_⟩
  · simp [statusLegal_iff]
  · simp [curMatchesBusy_iff]
  · simp [acceptedCommand_iff, hcheck]
  · simp [errRecorded_iff]
  · simp [resetHolds_iff, hpin]

/-- R176, R177: a dropped write sets ERR to E_BUSY, which a running command may show, and touches no operand. -/
theorem State.Inv.dropped {s : State} (h : s.Inv) (r : Reg) (v : Word) (hpin : s.resetPin = false) :
    (dropWrite r v s).Inv := by
  obtain ⟨hlegal, hcur, hcmd, -, -⟩ := h
  refine ⟨hlegal, hcur, acceptedCommand_iff.mpr fun i hi => ?_, errRecorded_iff.mpr (.inr rfl), ?_⟩
  · obtain ⟨hcheck, hop, -⟩ := acceptedCommand_iff.mp hcmd i hi
    exact ⟨(commandCheck_congr rfl rfl rfl).trans hcheck, hop, .inr rfl⟩
  · simp [resetHolds_iff, hpin]

/-- R56, R177: a write changes an operand only while no command depends on it. -/
theorem State.Inv.written {s : State} (h : s.Inv) (r : Reg) (v : Word) (hpin : s.resetPin = false) :
    (writeReg r v s).Inv := by
  rcases writeReg_cases r v s with hw | ⟨-, hw⟩ | ⟨hb, hw⟩
  case inl => rwa [hw]
  case inr.inl =>
    rw [hw]
    exact h.dropped r v hpin
  case inr.inr =>
    have hcur := h.cur_of_idle hb
    obtain ⟨-, -, -, herr, -⟩ := h
    rw [hw]
    exact .of_idle hpin hb hcur herr

/-- R200, R201: the asserted reset input brings the invariant about from any state. -/
theorem assertReset_inv (s : State) : (assertReset s).Inv := by
  refine ⟨rfl, rfl, rfl, rfl, ?_⟩
  simp [resetHolds_iff, atResetValues]

theorem State.Inv.releaseReset {s : State} (h : s.Inv) : (releaseReset s).Inv := by
  obtain ⟨hlegal, hcur, hcmd, herr, -⟩ := h
  exact ⟨hlegal, hcur, hcmd, herr, by simp [resetHolds_iff]⟩

/-- Everything a step can do keeps the invariant. -/
theorem Stepped.keeps_inv {s t : State} (hstep : Stepped s t) (h : s.Inv) : t.Inv := by
  have hp := h.popped
  cases hstep with
  | idle | held => exact hp
  | completed i _ busy => exact hp.completed i busy
  | read off => exact hp.hostRead off
  | lost _ v _ _ pin => exact hp.dropped .ctrl v pin
  | illegal _ v _ _ pin _ idle => exact hp.rejected .illegal v pin idle
  | rejected _ _ i _ _ pin _ idle => exact hp.rejected (commandCheck i s) (encode i) pin idle
  | accepted _ _ i _ _ pin _ _ _ passes => exact .accepted pin ((commandCheck_popped i s).trans passes)
  | written off v _ _ pin => exact hp.written (regAt off) v pin
  | reset => exact assertReset_inv _
  | released => exact hp.releaseReset

/-- Settles O50, by the inversion of `step`: each thing a step can do keeps the invariant. -/
theorem stepKeepsInvariant : Obligations.StepKeepsInvariant :=
  fun _ _ h hstep => (step_stepped hstep).keeps_inv h

end Sys2Proof.Machine
end

-- ==== Proofs: the bits of STATUS ====
section
namespace Sys2Proof.Machine

/-! ### The bits of STATUS -/

/-- A flag at bit `n` is seen there and nowhere else. -/
theorem getLsbD_flagBit (b : Bool) (n k : Nat) : (flagBit b n).getLsbD k = (b && (decide (n < 32) && decide (n = k))) := by
  have hpow : flagBit b n = if b then BitVec.twoPow 32 n else 0#32 := rfl
  cases b <;> simp [hpow]

/-- R24: each bit of STATUS comes from the one field that covers it, and the bits no field covers are 0. -/
theorem getLsbD_statusWord (s : State) (k : Nat) :
    (statusWord s).getLsbD k =
      if k = 0 then s.busy else if k = 1 then s.done else if k = 2 then s.tv
      else if 4 ≤ k ∧ k < 8 then (errCode s.err).getLsbD (k - 4)
      else if 8 ≤ k ∧ k < 12 then s.lastOp.getLsbD (k - 8) else false := by
  have herr : 8 ≤ k → (errCode s.err).getLsbD (k - 4) = false := fun h => BitVec.getLsbD_of_ge _ _ (by omega)
  have hop : 12 ≤ k → s.lastOp.getLsbD (k - 8) = false := fun h => BitVec.getLsbD_of_ge _ _ (by omega)
  simp only [statusWord, BitVec.getLsbD_or, getLsbD_flagBit, BitVec.getLsbD_shiftLeft, BitVec.getLsbD_setWidth]
  grind

/-- Settles O12: the flags and the reserved bit are single bits of `getLsbD_statusWord`, and the fields are its ranges. -/
theorem statusWordLayout : Obligations.StatusWordLayout := by
  refine ⟨fun s => ⟨getLsbD_statusWord s 0, getLsbD_statusWord s 1, getLsbD_statusWord s 2, getLsbD_statusWord s 3,
    ?err, ?lastOp, ?reserved⟩, rfl⟩
  all_goals refine BitVec.eq_of_getLsbD_eq fun k hk => ?_
  all_goals simp (disch := omega) only [BitVec.getLsbD_extractLsb', getLsbD_statusWord, if_pos, if_neg, hk, decide_true,
    Bool.true_and, Nat.add_sub_cancel_left, BitVec.ofNat_eq_ofNat, BitVec.getLsbD_zero]

end Sys2Proof.Machine
end

-- ==== Proofs: the words of CHECK, and what moves the fields of STATUS ====
section
namespace Sys2Proof.Machine

/-! ### The words of the checks -/

/-- R80, R82, R83: a word that decodes is the encoding of its command. -/
theorem encode_of_decode {v : Word} {i : Instr} (h : decode v = .ok i) : v = encode i := by
  unfold decode at h
  split at h
  · simp at h
  · rename_i hrsv
    split at h
    · rename_i j hj
      obtain rfl : j = i := by simpa using h
      rw [encode, ← decodeOp_eq_some.mp hj]
      exact eq_opField_of_rsvField (not_not.mp hrsv)
    · simp at h

/-- R82, R83: a word that does not decode has a reserved bit set or names no command. -/
theorem reserved_of_decode_error {v : Word} {f : WordFault} (h : decode v = .error f) :
    rsvField v ≠ 0 ∨ opField v = 0 ∨ 9 < (opField v).toNat := by
  unfold decode at h
  split at h
  · exact .inl ‹_›
  · split at h
    · simp at h
    · exact .inr (decodeOp_eq_none.mp ‹_›)

/-- R171: a check put before another answers first. -/
theorem firstErr_ite {p : Prop} [Decidable p] {e : Err} (he : e ≠ .none) (b : Err) :
    firstErr (if p then e else .none) b = if p then e else b := by
  by_cases hp : p <;> simp [firstErr, hp, he]

/-- R175: the tables check by the value of TV that fails it. -/
theorem tablesCheck_eq (s : State) : tablesCheck s = if s.tv = false then .noTables else .none := by
  cases htv : s.tv <;> simp [tablesCheck, htv]

/-- R171: on the word of a command, the pseudocode's `CHECK` is the command's own list of checks. -/
theorem check_encode (i : Instr) (s : State) : Spec.check (encode i) s = commandCheck i s := by
  have hrsv : (encode i).extractLsb' 4 28 = 0 := rsvField_encode i
  have hop : (encode i).extractLsb' 0 4 = opcode i := opField_encode i
  cases i <;> simp [Spec.check, hrsv, hop, opcode, commandCheck, costCheck, keylenCheck, tablesCheck_eq, firstErr_ite]

/-- R172: `CHECK` answers E_ILLEGAL for a word that does not decode. -/
theorem check_of_decode_error {v : Word} {f : WordFault} (h : decode v = .error f) (s : State) :
    Spec.check v s = .illegal := by
  obtain hrsv | hop | hop := reserved_of_decode_error h
  · exact if_pos (.inl hrsv)
  · exact if_pos (.inr (.inl (congrArg BitVec.toNat hop)))
  · exact if_pos (.inr (.inr hop))

/-! ### How a step moves STATUS -/

/-- R23: TV after a command's completion pseudocode. -/
theorem effectOf_tv (i : Instr) (s : State) :
    (effectOf i s).tv =
      if i ∈ [Instr.init, .setup, .bcrypt] then true else if i = .zeroize then false else s.tv := by
  cases i <;> simp [effectOf]

/-- R52: a write of a register that is no input leaves the core as it is. -/
theorem writeReg_of_not_isInput {r : Reg} (h : Spec.isInput r = false) (v : Word) (s : State) : writeReg r v s = s := by
  revert h
  cases r <;> simp [Spec.isInput, writeReg]

/-- What one step does to the five fields of STATUS, with its cause in terms of the state before it: six moves, to which
`Stepped.statusMove` brings down the eleven things a step can do. -/
inductive StatusMove (s t : State) : Prop where
  | kept (busy : t.busy = s.busy) (done : t.done = s.done) (err : t.err = s.err) (lastOp : t.lastOp = s.lastOp)
      (tv : t.tv = s.tv)
  | accepted (cause : Spec.acceptance s) (busy : t.busy = true) (done : t.done = false) (err : t.err = .none)
      (tv : t.tv = s.tv)
  | rejected (cause : Spec.rejection s) (busy : t.busy = s.busy) (done : t.done = true) (err : t.err ≠ .none)
      (tv : t.tv = s.tv)
  | dropped (cause : Spec.droppedWrite s) (busy : t.busy = s.busy) (done : t.done = s.done) (err : t.err ≠ .none)
      (lastOp : t.lastOp = s.lastOp) (tv : t.tv = s.tv)
  | completed (i : Instr) (cause : Spec.completion i s) (busy : t.busy = false) (done : t.done = true)
      (err : t.err = s.err) (lastOp : t.lastOp = s.lastOp) (tv : t.tv = (effectOf i (popped s)).tv)
  | reset (cause : Spec.resets s) (busy : t.busy = false) (done : t.done = false) (err : t.err = .none)
      (tv : t.tv = false)

/-- A write of a register other than CTRL is a dropped write or leaves STATUS as it is. -/
theorem statusMove_writeReg {s : State} {off : Offset} {v : Word} {rest : List Event}
    (ev : s.events = .write off v :: rest) (pin : s.resetPin = false) :
    StatusMove s (writeReg (regAt off) v (popped s)) := by
  cases hin : Spec.isInput (regAt off) with
  | false =>
    rw [writeReg_of_not_isInput hin]
    exact .kept rfl rfl rfl rfl rfl
  | true =>
    rcases writeReg_cases (regAt off) v (popped s) with hw | ⟨hb, hw⟩ | ⟨-, hw⟩
    · rw [hw]
      exact .kept rfl rfl rfl rfl rfl
    · rw [hw]
      exact .dropped ⟨off, v, rest, pin, hb, ev, .inr hin⟩ rfl rfl (by simp) rfl rfl
    · rw [hw]
      exact .kept rfl rfl rfl rfl rfl

theorem Stepped.statusMove {s t : State} (h : Stepped s t) : StatusMove s t := by
  cases h with
  | idle | held | released => exact .kept rfl rfl rfl rfl rfl
  | read off =>
    rw [hostRead_frame]
    exact .kept rfl rfl rfl rfl rfl
  | completed i turn busy cur => exact .completed i ⟨busy, cur, turn⟩ rfl rfl (by simp) (by simp) rfl
  | lost off v rest ev pin reg busy => exact .dropped ⟨off, v, rest, pin, busy, ev, .inl reg⟩ rfl rfl (by simp) rfl rfl
  | illegal off v rest ev pin reg idle f bad =>
    have hcheck : Spec.check v s ≠ .none := by simp [check_of_decode_error bad]
    exact .rejected ⟨off, v, rest, pin, idle, reg, ev, hcheck⟩ rfl rfl (by simp) rfl
  | rejected off v i rest ev pin reg idle good fails =>
    have hcheck : Spec.check v s ≠ .none := by rwa [encode_of_decode good, check_encode]
    exact .rejected ⟨off, v, rest, pin, idle, reg, ev, hcheck⟩ rfl rfl fails rfl
  | accepted off v i rest ev pin reg idle good passes =>
    have hcheck : Spec.check v s = .none := by rwa [encode_of_decode good, check_encode]
    exact .accepted ⟨off, v, rest, pin, idle, reg, ev, hcheck⟩ rfl rfl rfl rfl
  | written off v rest ev pin => exact statusMove_writeReg ev pin
  | reset rest ev => exact .reset ⟨rest, ev⟩ rfl rfl rfl rfl

/-! ### What can change each field -/

section
variable {s t : State} (m : StatusMove s t)
include m

theorem StatusMove.busy_cause (h : t.busy ≠ s.busy) :
    (t.busy = true ∧ Spec.acceptance s) ∨ (t.busy = false ∧ ((∃ i, Spec.completion i s) ∨ Spec.resets s)) := by
  cases m with
  | accepted cause busy => exact .inl ⟨busy, cause⟩
  | completed i cause busy => exact .inr ⟨busy, .inl ⟨i, cause⟩⟩
  | reset cause busy => exact .inr ⟨busy, .inr cause⟩
  | kept busy | rejected _ busy | dropped _ busy => exact absurd busy h

theorem StatusMove.done_cause (h : t.done ≠ s.done) :
    (t.done = true ∧ (Spec.rejection s ∨ ∃ i, Spec.completion i s)) ∨
      (t.done = false ∧ (Spec.acceptance s ∨ Spec.resets s)) := by
  cases m with
  | accepted cause _ done => exact .inr ⟨done, .inl cause⟩
  | rejected cause _ done => exact .inl ⟨done, .inl cause⟩
  | completed i cause _ done => exact .inl ⟨done, .inr ⟨i, cause⟩⟩
  | reset cause _ done => exact .inr ⟨done, .inr cause⟩
  | kept _ done | dropped _ _ done => exact absurd done h

theorem StatusMove.err_cause (h : t.err ≠ s.err) :
    (t.err ≠ .none ∧ (Spec.rejection s ∨ Spec.droppedWrite s)) ∨
      (t.err = .none ∧ (Spec.acceptance s ∨ Spec.resets s)) := by
  cases m with
  | accepted cause _ _ err => exact .inr ⟨err, .inl cause⟩
  | rejected cause _ _ err => exact .inl ⟨err, .inl cause⟩
  | dropped cause _ _ err => exact .inl ⟨err, .inr cause⟩
  | reset cause _ _ err => exact .inr ⟨err, .inr cause⟩
  | kept _ _ err | completed _ _ _ _ err => exact absurd err h

theorem StatusMove.lastOp_cause (h : t.lastOp ≠ s.lastOp) : Spec.acceptance s ∨ Spec.rejection s ∨ Spec.resets s := by
  cases m with
  | accepted cause => exact .inl cause
  | rejected cause => exact .inr (.inl cause)
  | reset cause => exact .inr (.inr cause)
  | kept _ _ _ lastOp | dropped _ _ _ _ lastOp | completed _ _ _ _ _ lastOp => exact absurd lastOp h

theorem StatusMove.tv_cause (h : t.tv ≠ s.tv) :
    (t.tv = true ∧ ∃ i ∈ [Instr.init, .setup, .bcrypt], Spec.completion i s) ∨
      (t.tv = false ∧ (Spec.completion .zeroize s ∨ Spec.resets s)) := by
  cases m with
  | completed i cause _ _ _ _ tv =>
    rw [effectOf_tv] at tv
    split_ifs at tv with hset hclear
    · exact .inl ⟨tv, i, hset, cause⟩
    · exact .inr ⟨tv, .inl (hclear ▸ cause)⟩
    · exact absurd tv h
  | reset cause _ _ _ tv => exact .inr ⟨tv, .inr cause⟩
  | kept _ _ _ _ tv | accepted _ _ _ _ tv | rejected _ _ _ _ tv | dropped _ _ _ _ _ tv => exact absurd tv h

end

/-- Settles O13: each step makes one of the six moves of `StatusMove`, and each field that a move changes has the move's
cause. -/
theorem statusFieldsHaveCauses : Obligations.StatusFieldsHaveCauses := by
  intro s t hstep
  have m := (step_stepped hstep).statusMove
  exact ⟨m.busy_cause, m.done_cause, m.err_cause, m.lastOp_cause, m.tv_cause⟩

end Sys2Proof.Machine
end

-- ==== Proofs: the register map ====
section
namespace Sys2Proof.Machine

/-! ### Words and offsets -/

/-- R53: clearing offset bits 1:0 leads to the first byte of the word. -/
theorem toNat_and_wordMask (off : Offset) : (off &&& 0x1FFC).toNat = 4 * (wordIndex off).val := by
  have hmask : off &&& (0x1FFC : Offset) = off >>> 2 <<< 2 := by
    ext i hi
    interval_cases i <;> simp
  have hlt := off.isLt
  simp only [hmask, BitVec.toNat_shiftLeft, BitVec.toNat_ushiftRight, Nat.shiftRight_eq_div_pow, Nat.shiftLeft_eq,
    wordIndex]
  omega

/-- R58: the S-boxes fill the words from 0x400 on, box by box. -/
theorem regAtWord_of_sbox {w : Fin 2048} {k : Fin 4} {i : Fin 256} (h : w.val = 0x400 + (256 * k.val + i.val)) :
    regAtWord w = .s k i := by
  simp (disch := omega) only [regAtWord, if_neg, dif_neg, dif_pos]
  simp only [Reg.s.injEq, Fin.ext_iff]
  omega

/-- R51: the offset of a register reaches it. -/
theorem regAt_offsetOf {r : Reg} (h : r ≠ .reserved) : regAt (offsetOf r) = r := by
  cases r with
  | reserved => exact absurd rfl h
  | ctrl | status | cost | keylen | blkL | blkR => rfl
  | salt j => revert j; decide
  | key j => revert j; decide
  | digest j => revert j; decide
  | p i => revert i; decide
  | s k i =>
    refine regAtWord_of_sbox ?_
    simp only [wordIndex, offsetOf, BitVec.toNat_ofNat]
    omega

/-- R51: the offset of the register at a word is the word's first byte. -/
theorem offsetOf_regAtWord (w : Fin 2048) :
    regAtWord w = .reserved ∨ (offsetOf (regAtWord w)).toNat = 4 * w.val := by
  fun_cases regAtWord w <;> simp [offsetOf] <;> omega

/-- R52: the reserved words. -/
theorem regAtWord_eq_reserved_iff (w : Fin 2048) :
    regAtWord w = .reserved ↔
      (26 ≤ w.val ∧ w.val < 32) ∨ (34 ≤ w.val ∧ w.val < 36) ∨ (42 ≤ w.val ∧ w.val < 64) ∨
        (82 ≤ w.val ∧ w.val < 1024) := by
  fun_cases regAtWord w <;> simp only [reduceCtorEq, false_iff, true_iff] <;> omega

/-- Settles O3: an offset reaches its word, and the map is decided word by word. -/
theorem registerMapRoundTrip : Obligations.RegisterMapRoundTrip := by
  refine ⟨fun r => regAt_offsetOf, fun off => ⟨?offset, ?reserved⟩⟩
  case offset =>
    refine (offsetOf_regAtWord (wordIndex off)).imp_right fun h => BitVec.eq_of_toNat_eq ?_
    rw [toNat_and_wordMask]
    exact h
  case reserved =>
    rw [regAt, regAtWord_eq_reserved_iff, toNat_and_wordMask]
    dsimp only
    omega

end Sys2Proof.Machine
end

-- ==== Proofs: host reads, and the engine's turn while idle ====
section
namespace Sys2Proof.Machine

/-! ### What a read returns -/

@[simp] theorem idleValue_popped (s : State) (r : Reg) : Spec.idleValue (popped s) r = Spec.idleValue s r := by
  cases r <;> rfl

/-- R54, R55: the reads that return the register. -/
theorem readReg_exact {r : Reg} {s : State} (pin : s.resetPin = false)
    (exact : s.busy = false ∨ Spec.exactWhileBusy r = true) : readReg r s = (Spec.idleValue s r, s) := by
  cases r <;> simp_all [readReg, Spec.exactWhileBusy, Spec.idleValue, tableRead, idleRead]

/-- R55, U1: the reads that return a free value. -/
theorem readReg_unspecified {r : Reg} {s : State} (pin : s.resetPin = false) (busy : s.busy = true)
    (inexact : Spec.exactWhileBusy r = false) : readReg r s = drawWord s := by
  revert inexact
  cases r <;> simp [readReg, pin, Spec.exactWhileBusy, tableRead, idleRead, busy]

/-! ### The step of a read -/

theorem popped_of_cons {s : State} {e : Event} {rest : List Event} (ev : s.events = e :: rest) :
    popped s = { s with events := rest } := by
  simp [popped, ev]

theorem popped_of_nil {s : State} (ev : s.events = []) : popped s = s := by
  cases s
  simp_all [popped]

theorem step_read {s : State} {off : Offset} {rest : List Event} (ev : s.events = .read off :: rest) :
    step s = .next (hostRead off (popped s)) := by
  simp [step, fetch, ev, onEvent, popped]

/-- R54, R55: the step of a read that returns the register. -/
theorem step_read_exact {s : State} {off : Offset} {rest : List Event} (pin : s.resetPin = false)
    (exact : s.busy = false ∨ Spec.exactWhileBusy (regAt off) = true) (ev : s.events = .read off :: rest) :
    step s = .next { s with events := rest, reads := ⟨off, Spec.idleValue s (regAt off)⟩ :: s.reads } := by
  rw [step_read ev, hostRead, readReg_exact (s := popped s) pin exact, idleValue_popped, popped_of_cons ev]

/-- Settles O4: while idle every read is exact. -/
theorem idleReadReturnsRegister : Obligations.IdleReadReturnsRegister :=
  fun _ _ _ pin idle ev => step_read_exact pin (.inl idle) ev

/-- Settles O5: while BUSY a read is exact at the registers R55 lists, and draws a free value at the others. -/
theorem busyReadExactOrUnspecified : Obligations.BusyReadExactOrUnspecified := by
  intro s off rest pin busy ev
  refine ⟨fun exact => step_read_exact pin (.inr exact) ev, fun inexact => ⟨Config.freeRead s.draws, ?_⟩⟩
  rw [step_read ev, hostRead, readReg_unspecified (s := popped s) pin busy inexact, popped_of_cons ev, drawWord]

/-- R54, R55: a read answers with some word, which is the register's while the core is idle. -/
theorem step_read_answers {s : State} {off : Offset} {rest : List Event} (pin : s.resetPin = false)
    (ev : s.events = .read off :: rest) :
    ∃ (w : Word) (d : Nat),
      step s = .next { s with events := rest, draws := d, reads := ⟨off, w⟩ :: s.reads } ∧
      (s.busy = false → w = Spec.idleValue s (regAt off)) := by
  refine ⟨(readReg (regAt off) (popped s)).1, (hostRead off (popped s)).draws, ?_, fun idle => ?_⟩
  · rw [step_read ev, hostRead_frame]
    simp [popped_of_cons ev]
  · rw [readReg_exact (s := popped s) pin (.inl idle), idleValue_popped]

/-- Settles O6: the offsets of R58 are those of `offsetOf`, so the read reaches the table word. -/
theorem tableReadBack : Obligations.TableReadBack := by
  intro s rest pin
  refine ⟨fun i ev => ?p, fun k i ev => ?s⟩
  case p =>
    have hreg : regAt (BitVec.ofNat 13 (0x100 + 4 * i.val)) = .p i := regAt_offsetOf (r := .p i) (by simp)
    obtain ⟨w, d, hstep, hw⟩ := step_read_answers pin ev
    refine ⟨w, d, hstep, fun idle => ?_⟩
    rw [hw idle, hreg]
    cases htv : s.tv <;> simp [Spec.idleValue, htv]
  case s =>
    have hoff : 4 * (0x400 + 256 * k.val + i.val) = 0x1000 + 1024 * k.val + 4 * i.val := by omega
    have hreg : regAt (BitVec.ofNat 13 (0x1000 + 1024 * k.val + 4 * i.val)) = .s k i :=
      regAt_offsetOf (r := .s k i) (by simp)
    rw [hoff] at ev
    obtain ⟨w, d, hstep, hw⟩ := step_read_answers pin ev
    refine ⟨w, d, hstep, fun idle => ?_⟩
    rw [hw idle, hreg]
    cases htv : s.tv <;> simp [Spec.idleValue, htv]

/-! ### The step of an idle engine -/

/-- R190: the engine's turn at an idle core takes its event, if there is one, and does nothing else. -/
theorem step_engine_idle {s : State} (idle : s.busy = false) (turn : engineMoves s) : step s = .next (popped s) := by
  rcases turn with ev | ⟨rest, ev⟩
  · rw [popped_of_nil ev]
    simp [step, fetch, ev, engineTurn_idle (.inl idle)]
  · rw [popped_of_cons ev]
    simp [step, fetch, ev, onEvent, engineTurn, idle]

/-- Settles O56: such a step is `hostRead` or takes the engine's event. -/
theorem readsAndIdleTurnsChangeNothing : Obligations.ReadsAndIdleTurnsChangeNothing := by
  intro s t hstep hcause
  rcases hcause with ⟨off, rest, ev⟩ | ⟨idle, turn⟩
  · obtain rfl : hostRead off (popped s) = t := by simpa [step_read ev] using hstep
    refine ⟨?_, by simp [ev]⟩
    rw [hostRead_frame]
    rfl
  · obtain rfl : popped s = t := by simpa [step_engine_idle idle turn] using hstep
    exact ⟨rfl, popped_of_nil⟩

end Sys2Proof.Machine
end

-- ==== Proofs: host writes of registers other than CTRL, while idle ====
section
namespace Sys2Proof.Machine

/-! ### What the registers read after a write -/

/-- R26, R27, R56: an input register reads as what was stored in it. -/
theorem idleValue_writeReg_same {r : Reg} {s : State} (idle : s.busy = false) (hin : Spec.isInput r = true)
    (v : Word) : Spec.idleValue (writeReg r v s) r = Spec.stored r v := by
  cases r with
  | ctrl | status | digest | p | s | reserved => simp [Spec.isInput] at hin
  | salt | key | blkL | blkR => simp [writeReg, inputWrite, idle, Spec.idleValue, Spec.stored]
  | cost | keylen =>
    apply BitVec.eq_of_toNat_eq
    simp [writeReg, inputWrite, idle, Spec.idleValue, Spec.stored]

/-- A store in one word of a register file leaves the others. -/
theorem getElem_set_of_ne {n : Nat} (xs : Vector Word n) {j j' : Fin n} (hne : ¬ j' = j) (v : Word) :
    (xs.set j.val v)[j'.val] = xs[j'.val] :=
  Vector.getElem_set_ne _ _ fun h => hne (Fin.ext h.symm)

/-- R56: a write leaves every register but the one it reaches. -/
theorem idleValue_writeReg_ne {r r' : Reg} {s : State} (idle : s.busy = false) (hne : r' ≠ r) (v : Word) :
    Spec.idleValue (writeReg r v s) r' = Spec.idleValue s r' := by
  cases r with
  | ctrl | status | digest | p | s | reserved => rfl
  | cost | keylen | salt | key | blkL | blkR =>
    cases r' <;> simp_all [writeReg, inputWrite, Spec.idleValue, statusWord, getElem_set_of_ne]

/-- R56: what every register reads after a write while idle. -/
theorem idleValue_writeReg {s : State} (idle : s.busy = false) (r r' : Reg) (v : Word) :
    Spec.idleValue (writeReg r v s) r' =
      if Spec.isInput r = true ∧ r' = r then Spec.stored r v else Spec.idleValue s r' := by
  split_ifs with h
  · obtain ⟨hin, rfl⟩ := h
    exact idleValue_writeReg_same idle hin v
  · by_cases heq : r' = r
    · rw [writeReg_of_not_isInput (by simpa [heq] using h)]
    · exact idleValue_writeReg_ne idle heq v

/-- R56: a write while idle changes at most COST, KEYLEN, SALT, KEY and BLK. -/
theorem writeReg_idle_frame {s : State} (idle : s.busy = false) (r : Reg) (v : Word) :
    writeReg r v s = { s with cost := (writeReg r v s).cost, keylen := (writeReg r v s).keylen,
                              salt := (writeReg r v s).salt, key := (writeReg r v s).key,
                              blk := (writeReg r v s).blk } := by
  rcases writeReg_cases r v s with h | ⟨busy, -⟩ | ⟨-, h⟩
  · rw [h]
  · simp [idle] at busy
  · exact h

/-! ### The step of a write -/

theorem step_write {s : State} {off : Offset} {v : Word} {rest : List Event} (pin : s.resetPin = false)
    (reg : regAt off ≠ .ctrl) (ev : s.events = .write off v :: rest) :
    step s = .next (writeReg (regAt off) v (popped s)) := by
  rw [popped_of_cons ev]
  cases h : regAt off <;> simp_all [step, fetch, onEvent, hostWrite]

/-- Settles O8: the frame of `writeReg`, and what the registers read after it. -/
theorem idleWriteFrame : Obligations.IdleWriteFrame := by
  intro s off v rest pin idle reg ev
  refine ⟨_, step_write pin reg ev, ?_, fun r hr => ?_⟩
  · rw [writeReg_idle_frame (s := popped s) idle]
    simp [popped_of_cons ev]
  · rw [idleValue_writeReg (s := popped s) idle, if_neg hr, idleValue_popped]

/-- Settles O7: the write leaves the core idle with the read waiting, and the read returns the register after the write. -/
theorem readAfterIdleWrite : Obligations.ReadAfterIdleWrite := by
  intro s off off' v rest pin idle reg ev
  have hframe := writeReg_idle_frame (s := popped s) idle (regAt off) v
  have hread : step (writeReg (regAt off) v (popped s)) = _ :=
    step_read_exact (off := off') (rest := rest) (by rw [hframe]; exact pin) (.inl (by rw [hframe]; exact idle))
      (by rw [hframe]; simp [ev])
  refine ⟨_, (run_succ 1 (step_write pin reg ev)).trans (run_succ 0 hread), ?_⟩
  rw [idleValue_writeReg (s := popped s) idle, idleValue_popped, hframe]
  rfl

end Sys2Proof.Machine
end

-- ==== Proofs: what changes the tables ====
section
namespace Sys2Proof.Machine

/-- R84: ENCRYPT and DIGEST leave the tables as they are. -/
theorem effectOf_keeps_tables {i : Instr} (h : i = .encrypt ∨ i = .digest) (s : State) :
    (effectOf i s).eng.p = s.eng.p ∧ (effectOf i s).eng.s = s.eng.s := by
  rcases h with rfl | rfl <;> exact ⟨rfl, rfl⟩

/-- R57, R201: a step leaves the tables and the datapath registers as they are, completes a command, or asserts the reset
input. -/
theorem Stepped.eng_cases {s t : State} (h : Stepped s t) :
    t.eng = s.eng ∨ (∃ i, s.busy = true ∧ s.cur = some i ∧ t = complete (effectOf i (popped s))) ∨
      ∃ rest, s.events = .assertReset :: rest := by
  cases h with
  | completed i _ busy cur => exact .inr (.inl ⟨i, busy, cur, rfl⟩)
  | reset rest ev => exact .inr (.inr ⟨rest, ev⟩)
  | read off =>
    rw [hostRead_frame]
    exact .inl rfl
  | written off v =>
    rcases writeReg_cases (regAt off) v (popped s) with h | ⟨-, h⟩ | ⟨-, h⟩ <;>
      (rw [h]; exact .inl rfl)
  | idle | held | lost | illegal | rejected | accepted | released => exact .inl rfl

/-- Settles O11: a step that changes the tables completes a command or asserts the reset input, and the command is none of
the two that leave the tables. -/
theorem tablesChangeOnlyByCommand : Obligations.TablesChangeOnlyByCommand := by
  intro s t hstep hne
  rcases (step_stepped hstep).eng_cases with heng | ⟨i, busy, cur, rfl⟩ | hreset
  · simp [heng] at hne
  · refine .inl ⟨i, ?_, busy, cur, rfl, rfl⟩
    by_contra hi
    have hkeep : i = .encrypt ∨ i = .digest := by cases i <;> simp at hi ⊢
    obtain ⟨hp, hs⟩ := effectOf_keeps_tables hkeep (popped s)
    simp [hp, hs] at hne
  · exact .inr hreset

end Sys2Proof.Machine
end

-- ==== Proofs: what a running command keeps ====
section
namespace Sys2Proof.Machine

/-! ### States in which the same command has the same outcome -/

/-- `t` is `s` but for ERR, the reset input, what waits at the core, what was observed of it and the free values used: what a
running command has read and what it will leave are the same in both (R65). -/
def sameCommand (s t : State) : Prop :=
  t = { s with err := t.err, resetPin := t.resetPin, events := t.events, reads := t.reads, history := t.history,
               draws := t.draws }

theorem sameCommand.refl (s : State) : sameCommand s s := rfl

theorem sameCommand.symm {s t : State} (h : sameCommand s t) : sameCommand t s := by
  unfold sameCommand at h ⊢
  rw [h]

theorem sameCommand.trans {s t u : State} (hst : sameCommand s t) (htu : sameCommand t u) : sameCommand s u := by
  unfold sameCommand at hst htu ⊢
  rw [htu, hst]

theorem sameCommand.busy {s t : State} (h : sameCommand s t) : t.busy = s.busy := by rw [h]

theorem sameCommand.cur {s t : State} (h : sameCommand s t) : t.cur = s.cur := by rw [h]

/-- A command's completion pseudocode looks at nothing in which the two states differ. -/
theorem sameCommand.after_effectOf {s t : State} (h : sameCommand s t) (i : Instr) :
    sameCommand (effectOf i s) (effectOf i t) := by
  unfold sameCommand at h
  rw [h]
  cases i <;> rfl

theorem sameCommand_popped (s : State) : sameCommand s (popped s) := rfl

theorem sameCommand_dropWrite (r : Reg) (v : Word) (s : State) : sameCommand s (dropWrite r v s) := rfl

theorem sameCommand_hostRead (off : Offset) (s : State) : sameCommand s (hostRead off s) := by
  rw [hostRead_frame]
  rfl

/-- R177: no write of a register other than CTRL reaches a running command. -/
theorem sameCommand_writeReg {s : State} (busy : s.busy = true) (r : Reg) (v : Word) :
    sameCommand s (writeReg r v s) := by
  rcases writeReg_cases r v s with h | ⟨-, h⟩ | ⟨idle, -⟩
  · rw [h]
    exact .refl s
  · rw [h]
    exact sameCommand_dropWrite r v s
  · simp [busy] at idle

/-- R65: a step that neither ends nor abandons the running command leaves it the same. -/
theorem Stepped.sameCommand_of_busy {s t : State} (h : Stepped s t) (hs : s.busy = true) (ht : t.busy = true) :
    sameCommand s t := by
  cases h with
  | idle | held | released | lost => rfl
  | read off => exact (sameCommand_popped s).trans (sameCommand_hostRead off _)
  | written off v => exact (sameCommand_popped s).trans (sameCommand_writeReg (s := popped s) hs _ v)
  | completed | reset => simp at ht
  | illegal _ _ _ _ _ _ idle | rejected _ _ _ _ _ _ _ idle | accepted _ _ _ _ _ _ _ idle => simp [hs] at idle

/-- Settles O57: the fields named are among those in which `sameCommand` states agree. -/
theorem inputsFrozenWhileBusy : Obligations.InputsFrozenWhileBusy := by
  intro s t hs ht hstep
  have h : sameCommand s t := (step_stepped hstep).sameCommand_of_busy hs ht
  rw [h]
  simp

end Sys2Proof.Machine
end

-- ==== Proofs: what a command leaves is fixed at its acceptance ====
section
namespace Sys2Proof.Machine

/-! ### The steps of a command -/

theorem decode_encode (i : Instr) : decode (encode i) = .ok i := by cases i <;> rfl

/-- R171, R173 to R175: the checks pass exactly when the operands and TV are ready. -/
theorem commandCheck_eq_none (i : Instr) (s : State) : commandCheck i s = .none ↔ Spec.ready i s := by
  cases i <;>
    simp [commandCheck, Spec.ready, costCheck_eq_none, keylenCheck_eq_none, tablesCheck_eq_none, firstErr_eq_none,
      and_assoc]

theorem step_cmd_accepted {s : State} {i : Instr} {rest : List Event} (pin : s.resetPin = false)
    (idle : s.busy = false) (passes : commandCheck i s = .none) (ev : s.events = cmd i :: rest) :
    step s = .next (accept i (popped s)) := by
  have hreg : regAt (offsetOf .ctrl) = .ctrl := regAt_offsetOf (by simp)
  have hfetch : fetch s = .run i (popped s) := by
    rw [popped_of_cons ev]
    simp [fetch, ev, cmd, wr, onEvent, hostWrite, pin, hreg, ctrlWrite, idle, decode_encode]
  rw [step, hfetch]
  exact (exec_eq_runCommand i _).trans
    (runCommand_accepted (s := popped s) idle ((commandCheck_popped i s).trans passes))

theorem step_engine_running {s : State} {i : Instr} {rest : List Event} (busy : s.busy = true)
    (cur : s.cur = some i) (ev : s.events = .engine :: rest) :
    step s = .next (complete (effectOf i (popped s))) := by
  have hfetch : fetch s = .run i (popped s) := by
    rw [popped_of_cons ev]
    simp [fetch, ev, onEvent, engineTurn, busy, cur]
  rw [step, hfetch]
  exact exec_running (s := popped s) busy cur

theorem step_ctrlWrite_busy {s : State} {off : Offset} {v : Word} {rest : List Event} (pin : s.resetPin = false)
    (busy : s.busy = true) (reg : regAt off = .ctrl) (ev : s.events = .write off v :: rest) :
    step s = .next (dropWrite .ctrl v (popped s)) := by
  rw [popped_of_cons ev]
  simp [step, fetch, ev, onEvent, hostWrite, pin, reg, ctrlWrite, busy]

/-! ### Host accesses while a command runs -/

/-- R88: the event is a host read or a host write. -/
def isAccess (e : Event) : Prop := (∃ off, e = .read off) ∨ ∃ off v, e = .write off v

/-- R176, R177, R60: an access while BUSY answers, and leaves the running command the same. -/
theorem step_access_of_busy {s : State} {e : Event} {rest : List Event} (access : isAccess e)
    (pin : s.resetPin = false) (busy : s.busy = true) (ev : s.events = e :: rest) :
    ∃ t, step s = .next t ∧ sameCommand s t ∧ t.resetPin = false ∧ t.events = rest := by
  rcases access with ⟨off, rfl⟩ | ⟨off, v, rfl⟩
  case inl =>
    refine ⟨_, step_read ev, (sameCommand_popped s).trans (sameCommand_hostRead off _), ?_⟩
    rw [hostRead_frame]
    simp [pin, ev]
  case inr =>
    by_cases reg : regAt off = .ctrl
    · exact ⟨_, step_ctrlWrite_busy pin busy reg ev, rfl, pin, by simp [ev]⟩
    · have hsame := (sameCommand_popped s).trans (sameCommand_writeReg (s := popped s) busy (regAt off) v)
      refine ⟨_, step_write pin reg ev, hsame, ?_⟩
      rcases writeReg_cases (regAt off) v (popped s) with h | ⟨-, h⟩ | ⟨-, h⟩ <;> rw [h] <;> simp [pin, ev]

theorem run_accesses_of_busy {accesses rest : List Event} {s : State} (hacc : ∀ e ∈ accesses, isAccess e)
    (pin : s.resetPin = false) (busy : s.busy = true) (ev : s.events = accesses ++ rest) :
    ∃ t, run accesses.length s = .next t ∧ sameCommand s t ∧ t.events = rest := by
  induction accesses generalizing s with
  | nil => exact ⟨s, rfl, .refl s, ev⟩
  | cons e es ih =>
    obtain ⟨he, hes⟩ := List.forall_mem_cons.mp hacc
    obtain ⟨t, hstep, hst, hpin, hev⟩ := step_access_of_busy he pin busy ev
    obtain ⟨u, hrun, htu, hrest⟩ := ih hes hpin (hst.busy.trans busy) hev
    exact ⟨u, (run_succ _ hstep).trans hrun, hst.trans htu, hrest⟩

/-- R65, R179: a command completes from a state that is, for the command, that of its acceptance. -/
theorem run_command_with_accesses {s : State} {i : Instr} {accesses : List Event} (pin : s.resetPin = false)
    (idle : s.busy = false) (ready : Spec.ready i s) (hacc : ∀ e ∈ accesses, isAccess e) :
    ∃ t, run (2 + accesses.length) { s with events := cmd i :: accesses ++ [.engine] } =
        .next (complete (effectOf i t)) ∧
      sameCommand (accept i s) t := by
  have hcheck := (commandCheck_eq_none i s).mpr ready
  have haccept := step_cmd_accepted (s := { s with events := cmd i :: accesses ++ [.engine] }) pin idle
    ((commandCheck_congr rfl rfl rfl).trans hcheck) rfl
  obtain ⟨u, hrun, hsame, hev⟩ :=
    run_accesses_of_busy (s := accept i { s with events := accesses ++ [.engine] }) hacc pin rfl rfl
  have hdone := step_engine_running (hsame.busy.trans rfl) (hsame.cur.trans rfl) hev
  refine ⟨popped u, ?_, hsame.trans (sameCommand_popped u)⟩
  rw [show 2 + accesses.length = accesses.length + 1 + 1 by omega, run_succ _ haccept]
  exact (run_add 1 hrun).trans (run_succ 0 hdone)

/-- Settles O58: with the accesses or without, the completion starts from the command as it was accepted. -/
theorem resultFixedAtAcceptance : Obligations.ResultFixedAtAcceptance := by
  intro s i accesses pin idle ready hacc
  obtain ⟨t, hrun, hst⟩ := run_command_with_accesses (accesses := []) pin idle ready (by simp)
  obtain ⟨u, hrunAcc, hsu⟩ := run_command_with_accesses pin idle ready hacc
  have hsame := (hst.symm.trans hsu).after_effectOf i
  refine ⟨_, _, hrun, hrunAcc, ?_⟩
  rw [hsame]
  simp

end Sys2Proof.Machine
end

-- ==== Proofs: the command words ====
section
namespace Sys2Proof.Machine

/-! ### The three outcomes of decoding -/

theorem decode_eq_ok_iff {v : Word} {i : Instr} : decode v = .ok i ↔ v = encode i :=
  ⟨encode_of_decode, fun h => h ▸ decode_encode i⟩

/-- R82: the reserved bits are looked at first, so any opcode may stand beside them. -/
theorem decode_eq_reservedBits_iff {v : Word} : decode v = .error .reservedBits ↔ rsvField v ≠ 0 := by
  unfold decode
  split
  next hrsv => exact iff_of_true rfl hrsv
  next hrsv => exact iff_of_false (by split <;> simp) hrsv

/-- R83: a reserved opcode is reported only where the reserved bits are zero. -/
theorem decode_eq_reservedOpcode_iff {v : Word} :
    decode v = .error .reservedOpcode ↔ rsvField v = 0 ∧ (opField v = 0 ∨ 9 < (opField v).toNat) := by
  rw [← decodeOp_eq_none]
  unfold decode
  split
  next hrsv => exact iff_of_false (by simp) fun ⟨hzero, _⟩ => hrsv hzero
  next hrsv =>
    split
    next i hop => exact iff_of_false (by simp) (by simp [hop])
    next hop => exact iff_of_true rfl ⟨not_not.mp hrsv, hop⟩

/-- Settles O1: `decode` has three outcomes, and each of them says which words have it. -/
theorem everyWordIsItsCommandOrIllegal : Obligations.EveryWordIsItsCommandOrIllegal := by
  refine ⟨decode_encode, fun v => ?_⟩
  split
  next i hok => exact decode_eq_ok_iff.mp hok
  next hbits => exact decode_eq_reservedBits_iff.mp hbits
  next hop => exact decode_eq_reservedOpcode_iff.mp hop

/-- Settles O2: five of the words are encodings, and the other three are reserved by their fields. -/
theorem opcodeMapWords : Obligations.OpcodeMapWords :=
  ⟨decode_encode .init, decode_encode .encrypt, decode_encode .sExpKey, decode_encode .bcrypt, decode_encode .zeroize,
    decode_eq_reservedOpcode_iff.mpr (by decide), decode_eq_reservedOpcode_iff.mpr (by decide),
    decode_eq_reservedBits_iff.mpr (by decide)⟩

end Sys2Proof.Machine
end

-- ==== Proofs: what each command writes ====
section
namespace Sys2Proof.Machine

/-! ### The write sets of the completion pseudocode -/

/-- R84: only ZEROIZE writes KEY and SALT. -/
theorem effectOf_keeps_key_salt {i : Instr} (h : i ≠ .zeroize) (s : State) :
    (effectOf i s).key = s.key ∧ (effectOf i s).salt = s.salt := by
  cases i with
  | zeroize => exact absurd rfl h
  | init | encrypt | expKey | expSalt | sExpKey | setup | digest | bcrypt => exact ⟨rfl, rfl⟩

/-- R84: only ENCRYPT and ZEROIZE write BLK. -/
theorem effectOf_keeps_blk {i : Instr} (henc : i ≠ .encrypt) (hzero : i ≠ .zeroize) (s : State) :
    (effectOf i s).blk = s.blk := by
  cases i with
  | encrypt => exact absurd rfl henc
  | zeroize => exact absurd rfl hzero
  | init | expKey | expSalt | sExpKey | setup | digest | bcrypt => rfl

/-- R84: only DIGEST, BCRYPT and ZEROIZE write DIGEST. -/
theorem effectOf_keeps_digest {i : Instr} (hdig : i ≠ .digest) (hbc : i ≠ .bcrypt) (hzero : i ≠ .zeroize) (s : State) :
    (effectOf i s).digest = s.digest := by
  cases i with
  | digest => exact absurd rfl hdig
  | bcrypt => exact absurd rfl hbc
  | zeroize => exact absurd rfl hzero
  | init | encrypt | expKey | expSalt | sExpKey | setup => rfl

/-- R23, R84: the commands that write TV. -/
theorem effectOf_tv_cause {i : Instr} {s : State} (h : (effectOf i s).tv ≠ s.tv) :
    i = .init ∨ i = .setup ∨ i = .bcrypt ∨ i = .zeroize := by
  rw [effectOf_tv] at h
  by_contra hi
  simp_all

/-! ### The write sets of the commands -/

/-- R170, R176, R179: a command completes, or changes STATUS but for TV, CUR and the history, and nothing else. -/
theorem exec_next_cases {i : Instr} {s t : State} (h : exec i s = .next t) :
    t = complete (effectOf i s) ∨
      t = { s with busy := t.busy, done := t.done, err := t.err, lastOp := t.lastOp, cur := t.cur,
                   history := t.history } := by
  rw [exec_eq_runCommand] at h
  rcases runCommand_cases i (effectOf i) s with ⟨-, -, hrun⟩ | ⟨-, -, hrun⟩ | ⟨-, -, hrun⟩ | ⟨-, -, hrun⟩ <;>
    (rw [hrun] at h; cases h)
  case inl => exact .inl rfl
  case inr.inl | inr.inr.inl | inr.inr.inr => exact .inr rfl

/-- Settles O30: a command that does not complete writes none of these registers, and one that completes writes those of
its completion pseudocode. -/
theorem commandWriteSets : Obligations.CommandWriteSets := by
  intro i s t hexec
  rcases exec_next_cases hexec with rfl | ht
  case inl =>
    exact ⟨effectOf_cost i s, effectOf_keylen i s, (effectOf_keeps_key_salt · s), (effectOf_keeps_blk · · s),
      (effectOf_keeps_digest · · · s), (effectOf_keeps_tables · s), effectOf_tv_cause, effectOf_resetPin i s,
      effectOf_events i s, effectOf_reads i s⟩
  case inr =>
    rw [ht]
    simp

end Sys2Proof.Machine
end

-- ==== Proofs: the writes of LOADKEY ====
section
namespace Sys2Proof.Machine

/-! ### The key registers that LOADKEY leaves -/

/-- The key registers once the first `n` words of LOADKEY are written (R89). -/
def packedKey (bs : List Byte) (n : Nat) (key : KeyRegs) : KeyRegs :=
  Vector.ofFn fun j => if j.val < n then packedWord bs j.val else key[j]

theorem packedKey_zero (bs : List Byte) (key : KeyRegs) : packedKey bs 0 key = key := by
  ext j hj
  simp [packedKey]

/-- The next word written is the next one packed. -/
theorem packedKey_succ (bs : List Byte) (key : KeyRegs) {n : Nat} (hn : n < 18) :
    packedKey bs (n + 1) key = (packedKey bs n key).set n (packedWord bs n) := by
  refine Vector.ext fun j hj => ?_
  rw [Vector.getElem_set]
  split
  next heq => simp [packedKey, ← heq]
  next hne =>
    have hlt : j ≤ n ↔ j < n := by omega
    simp [packedKey, hlt]

theorem packedKey_of_le (bs : List Byte) (key : KeyRegs) {n : Nat} {j : Fin 18} (h : n ≤ j.val) :
    (packedKey bs n key)[j] = key[j] := by
  simp [packedKey, h.not_gt]

/-- R9, R89: the bytes of a packed word are the ones it was packed from. -/
theorem byteOf_packedWord (bs : List Byte) (j : Nat) (b : Fin 4) :
    byteOf (packedWord bs j) b.val = bs.getD (4 * j + b.val) 0 := by
  obtain ⟨h0, h1, h2, h3⟩ :=
    byteOf_be32 (bs.getD (4 * j) 0) (bs.getD (4 * j + 1) 0) (bs.getD (4 * j + 2) 0) (bs.getD (4 * j + 3) 0)
  fin_cases b
  exacts [h0, h1, h2, h3]

/-- R28, R89: below the end of the last word written, key byte `m` is the `m`-th byte loaded, 0x00 past the list's end. -/
theorem keyByte_packedKey (bs : List Byte) (key : KeyRegs) {n m : Nat} (hn : n ≤ 18) (hm : m < 4 * n) :
    keyByte (packedKey bs n key) m = bs.getD m 0 := by
  obtain ⟨j, b, rfl, hj⟩ : ∃ (j : Fin 18) (b : Fin 4), m = 4 * j.val + b.val ∧ j.val < n :=
    ⟨⟨m / 4, by omega⟩, ⟨m % 4, by omega⟩, (Nat.div_add_mod m 4).symm, Nat.div_lt_of_lt_mul hm⟩
  rw [keyByte_four_mul_add, ← byteOf_packedWord]
  simp [packedKey, hj]

/-! ### The steps of LOADKEY -/

/-- R51, R56: a write at the offset of `KEY[j]` while idle. -/
theorem step_write_key {s : State} {j : Nat} {v : Word} {rest : List Event} (hj : j < 18) (pin : s.resetPin = false)
    (idle : s.busy = false) (ev : s.events = .write (BitVec.ofNat 13 (0x020 + 4 * j)) v :: rest) :
    step s = .next { s with events := rest, key := s.key.set j v } := by
  have hreg : regAt (BitVec.ofNat 13 (0x020 + 4 * j)) = .key ⟨j, hj⟩ := regAt_offsetOf (r := .key ⟨j, hj⟩) (by simp)
  rw [step_write pin (by simp [hreg]) ev, hreg, popped_of_cons ev]
  simp [writeReg, inputWrite, idle]

/-- R27, R56: a write of KEYLEN while idle. -/
theorem step_write_keylen {s : State} {v : Word} {rest : List Event} (pin : s.resetPin = false)
    (idle : s.busy = false) (ev : s.events = wr .keylen v :: rest) :
    step s = .next { s with events := rest, keylen := v.setWidth 7 } := by
  have hreg : regAt (offsetOf .keylen) = .keylen := regAt_offsetOf (by simp)
  rw [step_write pin (by simp [hreg]) ev, hreg, popped_of_cons ev]
  simp [writeReg, inputWrite, idle]

/-- A run of `n` steps and the step after it. -/
theorem run_then_step {s t u : State} {n : Nat} (hrun : run n s = .next t) (hstep : step t = .next u) :
    run (n + 1) s = .next u :=
  (run_add 1 hrun).trans (run_succ 0 hstep)

/-- R89: the first `n` writes of LOADKEY, by induction on their number. -/
theorem run_key_writes {bs : List Byte} {s : State} {n : Nat} {rest : List Event} (hn : n ≤ 18)
    (pin : s.resetPin = false) (idle : s.busy = false)
    (ev : s.events =
      (List.range n).map (fun j => .write (BitVec.ofNat 13 (0x020 + 4 * j)) (packedWord bs j)) ++ rest) :
    run n s = .next { s with events := rest, key := packedKey bs n s.key } := by
  induction n generalizing rest with
  | zero =>
    obtain rfl : s.events = rest := by simpa using ev
    rw [packedKey_zero]
    rfl
  | succ n ih =>
    have hrun := ih (Nat.le_of_succ_le hn) (by rw [ev, List.range_succ, List.map_append, List.append_assoc])
    rw [packedKey_succ bs s.key hn]
    exact run_then_step hrun (step_write_key hn pin idle rfl)

/-- R89: LOADKEY writes its packed words and the number of its bytes. -/
theorem run_loadKey {bs : List Byte} {s : State} (hlen : bs.length ≤ 72) (pin : s.resetPin = false)
    (idle : s.busy = false) (ev : s.events = loadKey bs) :
    run (loadKey bs).length s =
      .next { s with events := [], key := packedKey bs ((bs.length + 3) / 4) s.key,
                     keylen := (BitVec.ofNat 32 bs.length).setWidth 7 } := by
  have hwords := run_key_writes (n := (bs.length + 3) / 4) (by omega) pin idle ev
  have hcount : (loadKey bs).length = (bs.length + 3) / 4 + 1 := by simp [loadKey]
  rw [hcount]
  exact run_then_step hwords (step_write_keylen pin idle rfl)

/-- Settles O46: the state that LOADKEY's writes reach is `run_loadKey`'s, and its key bytes are those of the packed
words. -/
theorem loadKeyWritesKeyBytes : Obligations.LoadKeyWritesKeyBytes := by
  intro s bs pin idle _ hlen ev
  have hwords : (bs.length + 3) / 4 ≤ 18 := by omega
  refine ⟨_, run_loadKey hlen pin idle ev, rfl, ?keylen, fun m hm => ?loaded, fun m hm hend => ?padding,
    fun j hj => packedKey_of_le bs s.key hj⟩
  case keylen =>
    simp only [BitVec.toNat_setWidth, BitVec.toNat_ofNat]
    omega
  case loaded => exact keyByte_packedKey bs s.key hwords (by omega)
  case padding => rw [keyByte_packedKey bs s.key hwords hend, List.getD_eq_default _ _ hm]

end Sys2Proof.Machine
end

-- ==== Proofs: the cipher core, and the completions of INIT and ENCRYPT ====
section
namespace Sys2Proof.Machine

/-! ### The F-function -/

/-- R100: the byte of a word from bit `k` up, as an index into an S-box. -/
theorem toFin_extractLsb'_byte (x : Word) (k : Nat) :
    (x.extractLsb' k 8).toFin = Fin.ofNat 256 (x.toNat / 2 ^ k) := by
  apply Fin.ext
  simp [BitVec.extractLsb', Nat.shiftRight_eq_div_pow]

/-- Settles O31: the formula by `toFin_extractLsb'_byte` at bits 24, 16, 8 and 0, the example by evaluation. -/
theorem fFunctionFormula : Obligations.FFunctionFormula := by
  refine ⟨fun S x => ?formula, ?value⟩
  case formula => simp only [fFun, toFin_extractLsb'_byte, Nat.pow_zero, Nat.div_one]
  case value => decide +kernel

/-! ### Two rounds a step -/

/-- A loop of `2 * n` turns is a loop of `n` pairs of turns. -/
theorem fold_two_mul {α : Type} {n : Nat} (f : (i : Nat) → i < 2 * n → α → α) (a : α) :
    Nat.fold (2 * n) f a =
      Nat.fold n (fun j h x => f (2 * j + 1) (by omega) (f (2 * j) (by omega) x)) a := by
  induction n with
  | zero => rfl
  | succ n ih =>
    rw [Nat.fold_succ, ← ih fun i h => f i (by omega)]
    rfl

/-- R101, R102: the 16 rounds as 8 pairs. -/
theorem sixteenRounds_eq_pairs (p : PArray) (s : SBoxes) (b : Block) :
    sixteenRounds p s b =
      (List.finRange 8).foldl
        (fun x j => round p s ⟨2 * j.val + 1, by omega⟩ (round p s ⟨2 * j.val, by omega⟩ x)) b := by
  unfold sixteenRounds
  exact (fold_two_mul (n := 8) (fun i h x => round p s ⟨i, h⟩ x) b).trans (Nat.fold_eq_finRange_foldl ..)

/-- R103: two rounds swap the halves twice, so each half stays in its place. -/
theorem round_round (p : PArray) (s : SBoxes) (i j : Fin 16) (b : Block) :
    round p s j (round p s i b) =
      let l := b.l ^^^ p[i]
      let r := b.r ^^^ fFun s l ^^^ p[j]
      ⟨l ^^^ fFun s r, r⟩ := rfl

/-- Settles O32: a pair of rounds is a step of the form without swaps, and the whitening is the same. -/
theorem inPlaceEncryptionEqual : Obligations.InPlaceEncryptionEqual := by
  intro p s b
  have hindex (j : Fin 8) : 2 * j.val % 18 = 2 * j.val ∧ (2 * j.val + 1) % 18 = 2 * j.val + 1 := by omega
  simp [bfEnc, Spec.inPlaceEnc, sixteenRounds_eq_pairs, round_round, hindex]

/-! ### Completions -/

/-- R179: the command in progress completes with its own effect; RB, KPOS, SPOS and the sequencer counters are left open
(U3). -/
theorem exec_completes {i : Instr} {s : State} (busy : s.busy = true) (cur : s.cur = some i) :
    ∃ (c : Counters) (e : Engine), e.p = (effectOf i s).eng.p ∧ e.s = (effectOf i s).eng.s ∧
      exec i s = .next
        { effectOf i s with
          eng := e, busy := false, done := true, cur := none, counters := c, draws := s.draws + 1 } := by
  refine ⟨Config.freeCounters s.draws, (complete (effectOf i s)).eng, rfl, rfl, ?_⟩
  rw [exec_running busy cur, complete, effectOf_draws]

/-- Settles O21: `exec_completes` with INIT's effect. -/
theorem initCompletes : Obligations.InitCompletes := fun _ busy cur => exec_completes busy cur

/-- Settles O22: `exec_completes` with ENCRYPT's effect. -/
theorem encryptCompletes : Obligations.EncryptCompletes := fun _ busy cur => exec_completes busy cur

end Sys2Proof.Machine
end

-- ==== Proofs: the byte streams and the key mix ====
section
namespace Sys2Proof.Machine

/-! ### Stream words -/

/-- R120: the wrap before a byte is read is the remainder, for a position that a call can be given. -/
theorem wrapPos_eq_mod {len pos : Nat} (hpos : pos ≤ len) : wrapPos len pos = pos % len := by
  unfold wrapPos
  split
  next h => rw [Nat.le_antisymm hpos h, Nat.mod_self]
  next h => rw [Nat.mod_eq_of_lt (Nat.lt_of_not_le h)]

theorem streamByte_eq {buf : Nat → Byte} {len pos : Nat} (hpos : pos ≤ len) (v : Word) :
    streamByte buf len (v, pos) = ((v <<< 8) ||| (buf (pos % len)).setWidth 32, pos % len + 1) := by
  simp [streamByte, wrapPos_eq_mod hpos]

/-- R9, R120: four bytes shifted in, the first the most significant. -/
theorem shiftIn_eq_be32 (b0 b1 b2 b3 : Byte) :
    (((((0 : Word) <<< 8 ||| b0.setWidth 32) <<< 8 ||| b1.setWidth 32) <<< 8 ||| b2.setWidth 32) <<< 8) |||
      b3.setWidth 32 = be32 b0 b1 b2 b3 := by
  simp [be32, BitVec.shiftLeft_or_distrib, ← BitVec.shiftLeft_add]

/-- R120: one call of `STREAM`: the word of the next four bytes, and the position behind the last of them. -/
theorem stream_eq {buf : Nat → Byte} {len pos : Nat} (hlen : 1 ≤ len) (hpos : pos ≤ len) :
    stream buf len pos = (Spec.cyclicWord buf len pos, (pos + 3) % len + 1) := by
  have hnext (k : Nat) : k % len + 1 ≤ len := Nat.mod_lt k hlen
  simp only [stream, Nat.fold_succ, Nat.fold_zero, streamByte_eq hpos, streamByte_eq (hnext _),
    Nat.mod_add_mod, shiftIn_eq_be32, Spec.cyclicWord]

theorem cyclicWord_mod (buf : Nat → Byte) (len start : Nat) :
    Spec.cyclicWord buf len (start % len) = Spec.cyclicWord buf len start := by
  simp only [Spec.cyclicWord, Nat.mod_mod, Nat.mod_add_mod]

/-- R120: the position stored for the next call. -/
theorem wrapPos_stream {buf : Nat → Byte} {len pos : Nat} (hlen : 1 ≤ len) (hpos : pos ≤ len) :
    wrapPos len (stream buf len pos).2 = (pos + 4) % len := by
  have hle : (pos + 3) % len + 1 ≤ len := Nat.mod_lt _ hlen
  rw [stream_eq hlen hpos, wrapPos_eq_mod hle, Nat.mod_add_mod]

/-- R120: the position after `n` words from position 0. -/
theorem streamPos_spec {buf : Nat → Byte} {len : Nat} (hlen : 1 ≤ len) (n : Nat) :
    Spec.streamPos buf len n ≤ len ∧ Spec.streamPos buf len n % len = 4 * n % len := by
  induction n with
  | zero => exact ⟨Nat.zero_le len, rfl⟩
  | succ n ih =>
    obtain ⟨hle, hmod⟩ := ih
    rw [Spec.streamPos, stream_eq hlen hle]
    refine ⟨Nat.mod_lt _ hlen, ?_⟩
    rw [Nat.mod_add_mod, Nat.add_assoc, Nat.add_mod, hmod, ← Nat.add_mod, Nat.mul_succ]

/-- Settles O33: one call by `stream_eq`, and the words from position 0 by the position they start at. -/
theorem streamClosedForm : Obligations.StreamClosedForm := by
  intro buf len hlen
  refine ⟨fun pos hpos => ?call, fun n => ?closed⟩
  case call =>
    rw [stream_eq hlen hpos]
    exact ⟨rfl, Nat.mod_add_mod (pos + 3) len 1, Nat.le_add_left 1 _, Nat.mod_lt _ hlen⟩
  case closed =>
    obtain ⟨hle, hmod⟩ := streamPos_spec (buf := buf) hlen n
    rw [stream_eq hlen hle, ← cyclicWord_mod, hmod, cyclicWord_mod]

/-! ### The key mix -/

/-- R121: one pass of the loop, from a position that the loop can reach. -/
theorem keymixStep_eq {buf : Nat → Byte} {len : Nat} {e : Engine} (hlen : 1 ≤ len) (hpos : e.kpos.val ≤ len)
    (i : Fin 18) :
    keymixStep buf len i e =
      { e with p := e.p.set i (e.p[i] ^^^ Spec.cyclicWord buf len e.kpos.val),
               kpos := Fin.ofNat 72 ((e.kpos.val + 4) % len) } := by
  rw [keymixStep, wrapPos_stream hlen hpos, stream_eq hlen hpos]

/-- The engine `x` after `n` passes of the loop that began at `e`: KPOS stands at `4 * n` in the stream. -/
def mixedUpTo (buf : Nat → Byte) (len : Nat) (e : Engine) (n : Nat) (x : Engine) : Prop :=
  (∀ j : Fin 18, x.p[j] = if j.val < n then e.p[j] ^^^ Spec.cyclicWord buf len (4 * j.val) else e.p[j]) ∧
    x.kpos.val = 4 * n % len

theorem mixedUpTo_keymixStep {buf : Nat → Byte} {len : Nat} {e x : Engine} (hlen : 1 ≤ len) (hmax : len ≤ 72)
    (i : Fin 18) (h : mixedUpTo buf len e i.val x) : mixedUpTo buf len e (i.val + 1) (keymixStep buf len i x) := by
  obtain ⟨hp, hk⟩ := h
  have hpos : x.kpos.val ≤ len := hk ▸ (Nat.mod_lt _ hlen).le
  rw [keymixStep_eq hlen hpos, hk]
  refine ⟨fun j => ?p, ?kpos⟩
  case p =>
    rcases eq_or_ne j i with rfl | hne
    · simp [show x.p[j] = e.p[j] by simp [hp], cyclicWord_mod]
    · have hlt : j.val < i.val + 1 ↔ j.val < i.val := by omega
      simp only [hlt, ← hp j]
      exact getElem_set_of_ne x.p hne _
  case kpos =>
    have hlt : 4 * (i.val + 1) % len < 72 := (Nat.mod_lt _ hlen).trans_le hmax
    simpa [Nat.mul_add] using hlt

/-- R121: P[i] after the key mix. -/
theorem getElem_keymix_p {buf : Nat → Byte} {len : Nat} (hlen : 1 ≤ len) (hmax : len ≤ 72) (e : Engine)
    (i : Fin 18) :
    (keymix buf len e).p[i] = e.p[i] ^^^ Spec.cyclicWord buf len (4 * i.val) := by
  have hmixed : mixedUpTo buf len e 18 (keymix buf len e) := by
    unfold keymix
    refine fold_induct (mixedUpTo buf len e) ⟨fun j => by simp, by simp⟩ fun i h x hx => ?_
    exact mixedUpTo_keymixStep hlen hmax ⟨i, h⟩ hx
  rw [hmixed.1 i, if_pos i.isLt]

/-- Settles O34: the words by `getElem_keymix_p`, the frame by `keymix_frame`. -/
theorem keymixXorsStream : Obligations.KeymixXorsStream :=
  fun buf len e hlen hmax => ⟨getElem_keymix_p hlen hmax e, keymix_frame buf len e⟩

end Sys2Proof.Machine
end

-- ==== Proofs: a regeneration pass as one loop ====
section
namespace Sys2Proof.Machine

/-! ### Loops in a row -/

theorem mul_add_lt_mul {m n k j : Nat} (hk : k < n) (hj : j < m) : m * k + j < m * n :=
  (Nat.add_lt_add_left hj (m * k)).trans_le (Nat.mul_le_mul_left m hk)

/-- A loop of `n` loops of `m` turns is one loop of `m * n` turns. -/
theorem fold_mul {α : Type} {m n : Nat} (f : (i : Nat) → i < m * n → α → α) (a : α) :
    Nat.fold (m * n) f a =
      Nat.fold n (fun k hk x => Nat.fold m (fun j hj x => f (m * k + j) (mul_add_lt_mul hk hj) x) x) a := by
  induction n with
  | zero => rfl
  | succ n ih =>
    rw [Nat.fold_succ, ← ih fun i h => f i (h.trans_le (Nat.mul_le_mul_left m n.le_succ))]
    exact Nat.fold_add (n := m * n) (m := m) f a

/-! ### The words an encryption overwrites -/

/-- R122: the running block overwrites the table words of encryption `n`, n in 0..520. -/
def storeWords (n : Nat) (e : Engine) : Engine :=
  if h : n < 9 then storeP ⟨n, h⟩ e else storeS (Fin.ofNat 4 ((n - 9) / 128)) (Fin.ofNat 128 ((n - 9) % 128)) e

theorem storeWords_p_phase {n : Nat} (h : n < 9) (e : Engine) : storeWords n e = storeP ⟨n, h⟩ e := dif_pos h

theorem storeWords_s_phase {k j : Nat} (hk : k < 4) (hj : j < 128) (e : Engine) :
    storeWords (9 + (128 * k + j)) e = storeS ⟨k, hk⟩ ⟨j, hj⟩ e := by
  have hbox : (128 * k + j) / 128 % 4 = k := by omega
  simp [storeWords, Fin.ofNat, hbox, Nat.mod_eq_of_lt hj]

@[simp] theorem storeWords_spos (n : Nat) (e : Engine) : (storeWords n e).spos = e.spos := by
  unfold storeWords
  split <;> rfl

@[simp] theorem storeWords_encs (n : Nat) (e : Engine) : (storeWords n e).encs = e.encs := by
  unfold storeWords
  split <;> rfl

/-- R122: the P phase and the S phase are one loop of 521 encryptions. -/
theorem regenPass_eq_fold (before : Engine → Engine) (e : Engine) :
    regenPass before e = Nat.fold 521 (fun n _ x => storeWords n (encryptRb (before x))) e := by
  rw [show (521 : Nat) = 9 + 128 * 4 from rfl, Nat.fold_add, fold_mul]
  unfold regenPass
  simp (disch := assumption) only [storeWords_p_phase, storeWords_s_phase]

/-- R122, R207: a pass makes 521 encryptions. -/
theorem regenPass_encs {before : Engine → Engine} (h : ∀ x, (before x).encs = x.encs) (e : Engine) :
    (regenPass before e).encs = e.encs + 521 := by
  rw [regenPass_eq_fold]
  exact fold_count Engine.encs 1 fun n _ x => by simp [h]

/-! ### The single loop of the statements -/

/-- R124: the running block XORed with a block. -/
def xorBlock (m : Block) (e : Engine) : Engine := { e with rb := ⟨e.rb.l ^^^ m.l, e.rb.r ^^^ m.r⟩ }

theorem xorBlock_zero (e : Engine) : xorBlock ⟨0, 0⟩ e = e := by simp [xorBlock]

theorem setIfInBounds_eq_set {α : Type} {n i : Nat} (xs : Vector α n) (h : i < n) (x : α) :
    xs.setIfInBounds i x = xs.set i x := by
  ext j hj
  rw [Vector.getElem_setIfInBounds, Vector.getElem_set]

/-- R122, R124: encryption `n` of the single loop, in the model's operations. -/
theorem passStep_eq {n : Nat} (hn : n < 521) (mask : Nat → Block) (e : Engine) :
    Spec.passStep mask n e = storeWords n (encryptRb (xorBlock (mask n) e)) := by
  by_cases h : n < 9
  · rw [storeWords_p_phase h]
    simp only [Spec.passStep, if_pos h, setIfInBounds_eq_set _ (show 2 * n < 18 by omega),
      setIfInBounds_eq_set _ (show 2 * n + 1 < 18 by omega)]
    rfl
  · obtain ⟨k, j, hk, hj, rfl⟩ : ∃ k j, k < 4 ∧ j < 128 ∧ n = 9 + (128 * k + j) :=
      ⟨(n - 9) / 128, (n - 9) % 128, by omega, by omega, by omega⟩
    have hbox : (9 + (128 * k + j) - 9) / 128 = k := by omega
    have hpair : (9 + (128 * k + j) - 9) % 128 = j := by omega
    rw [storeWords_s_phase hk hj]
    simp only [Spec.passStep, if_neg h, hbox, hpair, setIfInBounds_eq_set _ hk,
      setIfInBounds_eq_set _ (show 2 * j < 256 by omega), setIfInBounds_eq_set _ (show 2 * j + 1 < 256 by omega),
      getElem!_pos e.s k hk]
    rfl

theorem pass_eq_fold (mask : Nat → Block) {n : Nat} (hn : n ≤ 521) (e : Engine) :
    Spec.pass mask n e = Nat.fold n (fun i _ x => storeWords i (encryptRb (xorBlock (mask i) x))) e := by
  induction n with
  | zero => rfl
  | succ n ih => rw [Spec.pass, ih (Nat.le_of_succ_le hn), passStep_eq hn, Nat.fold_succ]

/-- Settles O35: both are the same loop of 521 encryptions, and XOR with zero changes nothing. -/
theorem regenerationOrder : Obligations.RegenerationOrder := by
  refine fun e => ⟨?loop, regenPass_encs (fun _ => rfl) _⟩
  rw [regen, regenPass_eq_fold, pass_eq_fold _ le_rfl]
  simp only [xorBlock_zero]

end Sys2Proof.Machine
end

-- ==== Proofs: the salt in a pass ====
section
namespace Sys2Proof.Machine

/-! ### The salt stream -/

/-- R124: one salt word, and SPOS after it. -/
theorem saltWord_eq (salt : Nat → Byte) (e : Engine) :
    saltWord salt e = (Spec.cyclicWord salt 16 e.spos.val, { e with spos := e.spos + 4 }) := by
  have hpos : e.spos.val ≤ 16 := e.spos.isLt.le
  have hnext : Fin.ofNat 16 ((e.spos.val + 4) % 16) = e.spos + 4 := by
    apply Fin.ext
    simp [Fin.val_add]
  rw [saltWord, wrapPos_stream (by decide) hpos, stream_eq (by decide) hpos, hnext]

/-- An engine with SPOS at `k`. -/
def withSpos (k : Fin 16) (e : Engine) : Engine := { e with spos := k }

@[simp] theorem withSpos_p (k : Fin 16) (e : Engine) : (withSpos k e).p = e.p := rfl
@[simp] theorem withSpos_s (k : Fin 16) (e : Engine) : (withSpos k e).s = e.s := rfl
@[simp] theorem withSpos_rb (k : Fin 16) (e : Engine) : (withSpos k e).rb = e.rb := rfl
@[simp] theorem withSpos_encs (k : Fin 16) (e : Engine) : (withSpos k e).encs = e.encs := rfl

/-- R124: the running block takes the two salt words from SPOS on, and SPOS moves on by eight bytes. -/
theorem xorSalt_eq (salt : Nat → Byte) (e : Engine) :
    xorSalt salt e =
      withSpos (e.spos + 8)
        (xorBlock ⟨Spec.cyclicWord salt 16 e.spos.val, Spec.cyclicWord salt 16 (e.spos.val + 4)⟩ e) := by
  have hsecond : Spec.cyclicWord salt 16 (e.spos + 4).val = Spec.cyclicWord salt 16 (e.spos.val + 4) :=
    cyclicWord_mod salt 16 (e.spos.val + 4)
  have hnext : e.spos + 4 + 4 = e.spos + 8 := add_assoc e.spos 4 4
  simp only [xorSalt, saltWord_eq, hsecond, hnext, xorBlock, withSpos]

/-- R29: the words of the salt stream are those of SALT. -/
theorem cyclicWord_saltByte (salt : SaltRegs) (j : Fin 4) :
    Spec.cyclicWord (saltByte salt) 16 (4 * j.val) = salt[j] := by
  have hbyte (b : Fin 4) : saltByte salt ((4 * j.val + b.val) % 16) = byteOf salt[j] b.val := by
    rw [Nat.mod_eq_of_lt (by omega), saltByte_four_mul_add]
  exact be32_eq_of_bytes (hbyte 0) (hbyte 1) (hbyte 2) (hbyte 3)

/-- R120: a stream depends on the bytes below the buffer's length only. -/
theorem cyclicWord_congr_bytes {buf buf' : Nat → Byte} {len : Nat} (hlen : 1 ≤ len)
    (h : ∀ n, n < len → buf n = buf' n) (start : Nat) :
    Spec.cyclicWord buf len start = Spec.cyclicWord buf' len start := by
  have hbyte (k : Nat) : buf (k % len) = buf' (k % len) := h _ (Nat.mod_lt k hlen)
  simp only [Spec.cyclicWord, hbyte]

/-! ### The salt halves -/

/-- R130: the salt words mixed in before encryption `n`. -/
def saltHalf (salt : SaltRegs) (n : Nat) : Block := if n % 2 = 0 then ⟨salt[0], salt[1]⟩ else ⟨salt[2], salt[3]⟩

/-- R130: the two words of the salt stream that follow its first `8 * n` bytes. -/
theorem saltHalf_eq (salt : SaltRegs) (n : Nat) :
    saltHalf salt n =
      ⟨Spec.cyclicWord (saltByte salt) 16 (8 * n), Spec.cyclicWord (saltByte salt) 16 (8 * n + 4)⟩ := by
  have hword := cyclicWord_saltByte salt
  have hstart (k : Nat) : Spec.cyclicWord (saltByte salt) 16 (8 * n + k) =
      Spec.cyclicWord (saltByte salt) 16 (8 * (n % 2) + k) := by
    rw [← cyclicWord_mod, ← cyclicWord_mod _ _ (8 * (n % 2) + k)]
    congr 1
    omega
  rw [← Nat.add_zero (8 * n), hstart 0, Nat.add_zero, hstart 4]
  rcases Nat.mod_two_eq_zero_or_one n with hn | hn <;> rw [saltHalf, hn]
  · exact (congrArg₂ Block.mk (hword 0) (hword 1)).symm
  · exact (congrArg₂ Block.mk (hword 2) (hword 3)).symm

theorem encryptRb_withSpos (k : Fin 16) (e : Engine) : encryptRb (withSpos k e) = withSpos k (encryptRb e) := rfl

theorem storeWords_withSpos (n : Nat) (k : Fin 16) (e : Engine) :
    storeWords n (withSpos k e) = withSpos k (storeWords n e) := by
  unfold storeWords
  split <;> rfl

/-- R130: with SPOS where `n` encryptions leave it, the running block takes the half of encryption `n`. -/
theorem xorSalt_saltByte (salt : SaltRegs) (n : Nat) (e : Engine) :
    xorSalt (saltByte salt) (withSpos (Fin.ofNat 16 (8 * n)) e) =
      withSpos (Fin.ofNat 16 (8 * (n + 1))) (xorBlock (saltHalf salt n) e) := by
  have hleft : Spec.cyclicWord (saltByte salt) 16 (8 * n % 16) = Spec.cyclicWord (saltByte salt) 16 (8 * n) :=
    cyclicWord_mod ..
  have hright :
      Spec.cyclicWord (saltByte salt) 16 (8 * n % 16 + 4) = Spec.cyclicWord (saltByte salt) 16 (8 * n + 4) := by
    rw [← cyclicWord_mod, Nat.mod_add_mod, cyclicWord_mod]
  have hnext : Fin.ofNat 16 (8 * n) + 8 = Fin.ofNat 16 (8 * (n + 1)) := by
    apply Fin.ext
    simp [Fin.val_add, Nat.mul_add]
  rw [xorSalt_eq, saltHalf_eq, ← hleft, ← hright, ← hnext]
  rfl

/-- R130: a loop that takes the salt from SPOS on is the loop that takes its halves in turn. -/
theorem fold_xorSalt (salt : SaltRegs) (n : Nat) (e : Engine) :
    Nat.fold n (fun i _ x => storeWords i (encryptRb (xorSalt (saltByte salt) x))) (withSpos 0 e) =
      withSpos (Fin.ofNat 16 (8 * n))
        (Nat.fold n (fun i _ x => storeWords i (encryptRb (xorBlock (saltHalf salt i) x))) e) := by
  induction n with
  | zero => rfl
  | succ n ih =>
    rw [Nat.fold_succ, ih, xorSalt_saltByte, encryptRb_withSpos, storeWords_withSpos, Nat.fold_succ]

/-- R130: the salted expansion is the single loop with the salt halves in turn, which moves no SPOS. -/
theorem saltedExpand_eq_pass (salt : SaltRegs) (key : Nat → Byte) (len : Nat) (e : Engine) :
    saltedExpand (saltByte salt) key len e =
      withSpos (Fin.ofNat 16 (8 * 521)) (Spec.pass (saltHalf salt) 521 { keymix key len e with rb := ⟨0, 0⟩ }) := by
  rw [saltedExpand, regenPass_eq_fold, pass_eq_fold _ le_rfl]
  exact fold_xorSalt salt 521 { keymix key len e with rb := ⟨0, 0⟩ }

/-- Settles O36: the engines of `saltedExpand_eq_pass` differ in SPOS alone. -/
theorem saltHalvesAlternate : Obligations.SaltHalvesAlternate := by
  intro salt key len e _ _ mask a b
  have hpass : a = withSpos (Fin.ofNat 16 (8 * 521)) b := saltedExpand_eq_pass salt key len e
  simp [hpass]

/-! ### The all-zero salt -/

/-- R131: an all-zero salt has all-zero words. -/
theorem cyclicWord_zero {salt : Nat → Byte} (h : ∀ n, n < 16 → salt n = 0) (start : Nat) :
    Spec.cyclicWord salt 16 start = 0 := by
  rw [cyclicWord_congr_bytes (buf' := fun _ => 0) (by decide) h]
  simp [Spec.cyclicWord, be32]

/-- Settles O37: XOR with zero words changes no running block, so the two passes agree from the key mix on. -/
theorem zeroSaltIsUnsalted : Obligations.ZeroSaltIsUnsalted := by
  intro salt key len e hzero
  have hprep (x y : Engine) (hxy : sameTables x y) : sameTables (xorSalt salt x) y := by
    rw [xorSalt_eq, cyclicWord_zero hzero, cyclicWord_zero hzero, xorBlock_zero]
    exact hxy
  obtain ⟨hp, hs, -⟩ := regenPass_sameTables (xorSalt salt) (fun x => x)
    { keymix key len e with rb := ⟨0, 0⟩, spos := 0 } { keymix key len e with rb := ⟨0, 0⟩ } ⟨rfl, rfl, rfl⟩ hprep
  exact ⟨hp, hs⟩

end Sys2Proof.Machine
end

-- ==== Proofs: what the key schedule depends on ====
section
namespace Sys2Proof.Machine

/-! ### What a routine reads of its buffers

Of a key it reads the 18 words of the key mix, of a salt the words of a stream over 16 bytes. -/

/-- R121: the key mix takes the same words from both buffers. -/
def sameKeyWords (buf buf' : Nat → Byte) (len len' : Nat) : Prop :=
  ∀ i : Fin 18, Spec.cyclicWord buf len (4 * i.val) = Spec.cyclicWord buf' len' (4 * i.val)

/-- R132: only the first 72 stream bytes matter. -/
theorem sameKeyWords_of_bytes {buf buf' : Nat → Byte} {len len' : Nat}
    (h : ∀ n, n < 72 → buf (n % len) = buf' (n % len')) : sameKeyWords buf buf' len len' := by
  intro i
  simp only [Spec.cyclicWord, h (4 * i.val) (by omega), h (4 * i.val + 1) (by omega), h (4 * i.val + 2) (by omega),
    h (4 * i.val + 3) (by omega)]

theorem keymix_p_congr {buf buf' : Nat → Byte} {len len' : Nat} {x y : Engine} (hlen : 1 ≤ len ∧ len ≤ 72)
    (hlen' : 1 ≤ len' ∧ len' ≤ 72) (hkey : sameKeyWords buf buf' len len') (hp : x.p = y.p) :
    (keymix buf len x).p = (keymix buf' len' y).p := by
  refine Vector.ext fun i hi => ?_
  have hx := getElem_keymix_p (buf := buf) hlen.1 hlen.2 x ⟨i, hi⟩
  have hy := getElem_keymix_p (buf := buf') hlen'.1 hlen'.2 y ⟨i, hi⟩
  rw [hp, hkey ⟨i, hi⟩] at hx
  exact hx.trans hy.symm

/-- R124: salts that agree on their 16 bytes act alike. -/
theorem xorSalt_congr {salt salt' : Nat → Byte} (h : ∀ n, n < 16 → salt n = salt' n) :
    xorSalt salt = xorSalt salt' := by
  funext e
  simp only [xorSalt_eq, cyclicWord_congr_bytes (by decide) h]

/-! ### The routines on agreeing inputs -/

/-- Two calls of a routine, with lengths of R174, whose keys and salts it cannot tell apart. -/
structure SameInputs (salt salt' key key' : Nat → Byte) (len len' : Nat) : Prop where
  len_ok : 1 ≤ len ∧ len ≤ 72
  len_ok' : 1 ≤ len' ∧ len' ≤ 72
  keyWords : sameKeyWords key key' len len'
  saltBytes : ∀ n, n < 16 → salt n = salt' n

/-- R123: an expansion reads the words of the key mix and the tables, and sets the running block itself. -/
theorem expand_sameTables {buf buf' : Nat → Byte} {len len' : Nat} {x y : Engine} (hlen : 1 ≤ len ∧ len ≤ 72)
    (hlen' : 1 ≤ len' ∧ len' ≤ 72) (hkey : sameKeyWords buf buf' len len') (hp : x.p = y.p) (hs : x.s = y.s) :
    sameTables (expand buf len x) (expand buf' len' y) := by
  refine regenPass_sameTables _ _ _ _ ⟨keymix_p_congr hlen hlen' hkey hp, ?_, rfl⟩ fun _ _ h => h
  simpa using hs

/-- The engines agree on all that a salted pass reads. -/
def sameSaltedPass (a b : Engine) : Prop := sameTables a b ∧ a.spos = b.spos

theorem xorSalt_sameSaltedPass (salt : Nat → Byte) {x y : Engine} (h : sameSaltedPass x y) :
    sameSaltedPass (xorSalt salt x) (xorSalt salt y) := by
  obtain ⟨⟨hp, hs, hrb⟩, hspos⟩ := h
  simp [xorSalt_eq, xorBlock, withSpos, sameSaltedPass, sameTables, hp, hs, hrb, hspos]

theorem storeWords_sameSaltedPass (n : Nat) {x y : Engine} (h : sameSaltedPass x y) :
    sameSaltedPass (storeWords n (encryptRb x)) (storeWords n (encryptRb y)) := by
  obtain ⟨⟨hp, hs, hrb⟩, hspos⟩ := h
  refine ⟨?_, by simpa using hspos⟩
  unfold storeWords
  split <;> simp [sameTables, hp, hs, hrb]

section
variable {salt salt' key key' : Nat → Byte} {len len' : Nat} (hin : SameInputs salt salt' key key' len len')
include hin

/-- R124: a salted expansion reads the words of both streams and the tables, and sets the running block and SPOS
itself. -/
theorem saltedExpand_sameTables {x y : Engine} (hp : x.p = y.p) (hs : x.s = y.s) :
    sameTables (saltedExpand salt key len x) (saltedExpand salt' key' len' y) := by
  have hstart : sameSaltedPass { keymix key len x with rb := ⟨0, 0⟩, spos := 0 }
      { keymix key' len' y with rb := ⟨0, 0⟩, spos := 0 } :=
    ⟨⟨keymix_p_congr hin.len_ok hin.len_ok' hin.keyWords hp, by simpa using hs, rfl⟩, rfl⟩
  rw [saltedExpand, saltedExpand, xorSalt_congr hin.saltBytes, regenPass_eq_fold, regenPass_eq_fold]
  exact (fold_related sameSaltedPass hstart fun n _ _ _ h =>
    storeWords_sameSaltedPass n (xorSalt_sameSaltedPass salt' h)).1

/-- R125: one iteration expands with the key and then with the salt. -/
theorem eksIteration_sameTables {x y : Engine} (hxy : sameTables x y) :
    sameTables (eksIteration salt key len x) (eksIteration salt' key' len' y) := by
  have hsalt : sameKeyWords salt salt' 16 16 := fun i => cyclicWord_congr_bytes (by decide) hin.saltBytes _
  obtain ⟨hp, hs, -⟩ := hxy
  obtain ⟨hp, hs, -⟩ := expand_sameTables hin.len_ok hin.len_ok' hin.keyWords hp hs
  exact expand_sameTables (by decide) (by decide) hsalt hp hs

/-- R125: the schedule starts from the INIT tables, so it takes nothing from the tables before the call. -/
theorem eksSetup_sameTables (cost : Nat) (x y : Engine) :
    sameTables (eksSetup cost salt key len x) (eksSetup cost salt' key' len' y) := by
  unfold eksSetup
  exact fold_related sameTables (saltedExpand_sameTables hin rfl rfl) fun _ _ _ _ => eksIteration_sameTables hin

end

/-- Settles O38: buffers with the same first 72 stream bytes give the key mix the same words. -/
theorem keyPeriodIdentity : Obligations.KeyPeriodIdentity := by
  intro buf1 buf2 salt len1 len2 cost e hmin1 hmax1 hmin2 hmax2 hbytes
  have hin : SameInputs salt salt buf1 buf2 len1 len2 :=
    ⟨⟨hmin1, hmax1⟩, ⟨hmin2, hmax2⟩, sameKeyWords_of_bytes hbytes, fun _ _ => rfl⟩
  obtain ⟨hp, hs, -⟩ := expand_sameTables (x := e) hin.len_ok hin.len_ok' hin.keyWords rfl rfl
  obtain ⟨hpSalted, hsSalted, -⟩ := saltedExpand_sameTables hin (x := e) rfl rfl
  obtain ⟨hpSetup, hsSetup, -⟩ := eksSetup_sameTables hin cost e e
  exact ⟨hp, hs, hpSalted, hsSalted, hpSetup, hsSetup⟩

/-- Settles O39: the key words and the salt words are those of the bytes the statement names. -/
theorem scheduleDependsOnInputsOnly : Obligations.ScheduleDependsOnInputsOnly := by
  intro salt salt' key key' cost len e e' hmin hmax hsalt hkey
  have hin : SameInputs salt salt' key key' len len :=
    ⟨⟨hmin, hmax⟩, ⟨hmin, hmax⟩, fun i => cyclicWord_congr_bytes hmin hkey _, hsalt⟩
  obtain ⟨hp, hs, -⟩ := eksSetup_sameTables hin cost e e'
  exact ⟨hp, hs⟩

end Sys2Proof.Machine
end

-- ==== Proofs: the key-schedule commands, and SETUP as a sequence of them ====
section
namespace Sys2Proof.Machine

/-! ### Completions -/

/-- Settles O23: `exec_completes` with EXPKEY's effect. -/
theorem expKeyCompletes : Obligations.ExpKeyCompletes := fun _ busy cur => exec_completes busy cur

/-- Settles O24: `exec_completes` with EXPSALT's effect. -/
theorem expSaltCompletes : Obligations.ExpSaltCompletes := fun _ busy cur => exec_completes busy cur

/-- Settles O25: `exec_completes` with SEXPKEY's effect. -/
theorem sExpKeyCompletes : Obligations.SExpKeyCompletes := fun _ busy cur => exec_completes busy cur

/-- Settles O26: `exec_completes` with SETUP's effect. -/
theorem setupCompletes : Obligations.SetupCompletes := fun _ busy cur => exec_completes busy cur

/-! ### The result of a routine: the tables and the number of encryptions -/

/-- The engines agree on the tables and on the number of encryptions. -/
def sameResult (a b : Engine) : Prop := a.p = b.p ∧ a.s = b.s ∧ a.encs = b.encs

theorem sameResult.refl (a : Engine) : sameResult a a := ⟨rfl, rfl, rfl⟩

theorem sameResult.trans {a b c : Engine} (hab : sameResult a b) (hbc : sameResult b c) : sameResult a c := by
  obtain ⟨hp, hs, hn⟩ := hab
  obtain ⟨hp', hs', hn'⟩ := hbc
  exact ⟨hp.trans hp', hs.trans hs', hn.trans hn'⟩

theorem sameResult.symm {a b : Engine} (h : sameResult a b) : sameResult b a := by
  obtain ⟨hp, hs, hn⟩ := h
  exact ⟨hp.symm, hs.symm, hn.symm⟩

/-- R123, R207. -/
theorem expand_encs (buf : Nat → Byte) (len : Nat) (e : Engine) : (expand buf len e).encs = e.encs + 521 := by
  rw [expand, regen, regenPass_encs fun _ => rfl, keymix_encs]

/-- R124, R207. -/
theorem saltedExpand_encs (salt key : Nat → Byte) (len : Nat) (e : Engine) :
    (saltedExpand salt key len e).encs = e.encs + 521 := by
  rw [saltedExpand, regenPass_encs (xorSalt_encs salt), keymix_encs]

theorem expand_sameResult {buf : Nat → Byte} {len : Nat} {x y : Engine} (hlen : 1 ≤ len ∧ len ≤ 72)
    (h : sameResult x y) : sameResult (expand buf len x) (expand buf len y) := by
  obtain ⟨hp, hs, hn⟩ := h
  obtain ⟨hp', hs', -⟩ := expand_sameTables hlen hlen (fun _ => rfl) hp hs (buf := buf)
  exact ⟨hp', hs', by rw [expand_encs, expand_encs, hn]⟩

theorem saltedExpand_sameResult {salt key : Nat → Byte} {len : Nat} {x y : Engine} (hlen : 1 ≤ len ∧ len ≤ 72)
    (h : sameResult x y) : sameResult (saltedExpand salt key len x) (saltedExpand salt key len y) := by
  obtain ⟨hp, hs, hn⟩ := h
  have hin : SameInputs salt salt key key len len := ⟨hlen, hlen, fun _ => rfl, fun _ _ => rfl⟩
  obtain ⟨hp', hs', -⟩ := saltedExpand_sameTables hin hp hs
  exact ⟨hp', hs', by rw [saltedExpand_encs, saltedExpand_encs, hn]⟩

theorem eksIteration_sameResult {salt key : Nat → Byte} {len : Nat} {x y : Engine} (hlen : 1 ≤ len ∧ len ≤ 72)
    (h : sameResult x y) : sameResult (eksIteration salt key len x) (eksIteration salt key len y) :=
  expand_sameResult (by decide) (expand_sameResult hlen h)

/-! ### Commands issued one after another -/

/-- R170, R179: a command whose checks pass, issued to an idle core and completed. -/
theorem run_issued {s : State} {i : Instr} {rest : List Event} (pin : s.resetPin = false) (idle : s.busy = false)
    (ready : Spec.ready i s) (ev : s.events = Spec.issued i ++ rest) :
    run 2 s = .next (complete (effectOf i (popped (accept i (popped s))))) := by
  have haccept := step_cmd_accepted pin idle ((commandCheck_eq_none i s).mpr ready) ev
  have hdone := step_engine_running (s := accept i (popped s)) (rest := rest) rfl rfl (by simp [ev, Spec.issued])
  exact (run_succ 1 haccept).trans (run_succ 0 hdone)

/-- `t` is `s` but for the engine, STATUS, CUR, what waits at the core and the free values used. -/
def sameOperands (s t : State) : Prop :=
  t = { s with eng := t.eng, counters := t.counters, tv := t.tv, busy := t.busy, done := t.done, err := t.err,
               lastOp := t.lastOp, cur := t.cur, events := t.events, draws := t.draws }

theorem sameOperands.trans {s t u : State} (hst : sameOperands s t) (htu : sameOperands t u) : sameOperands s u := by
  unfold sameOperands at hst htu ⊢
  rw [htu, hst]

theorem sameOperands.key {s t : State} (h : sameOperands s t) : t.key = s.key := by rw [h]

theorem sameOperands.salt {s t : State} (h : sameOperands s t) : t.salt = s.salt := by rw [h]

theorem sameOperands.keylen {s t : State} (h : sameOperands s t) : t.keylen = s.keylen := by rw [h]

theorem sameOperands.resetPin {s t : State} (h : sameOperands s t) : t.resetPin = s.resetPin := by rw [h]

theorem sameOperands_popped (s : State) : sameOperands s (popped s) := rfl

theorem sameOperands_accept (i : Instr) (s : State) : sameOperands s (accept i s) := rfl

theorem sameOperands_complete (s : State) : sameOperands s (complete s) := rfl

/-- R104, R126 to R129: the commands of the key schedule. -/
def scheduleCommands : List Instr := [.init, .expKey, .expSalt, .sExpKey, .setup]

theorem sameOperands_effectOf {i : Instr} (hi : i ∈ scheduleCommands) (s : State) :
    sameOperands s (effectOf i s) := by
  fin_cases hi <;> rfl

/-- R23, R175: a command of the key schedule leaves TV set: it sets it or is accepted only where it is set. -/
theorem effectOf_tv_of_ready {i : Instr} {s : State} (hi : i ∈ scheduleCommands) (ready : Spec.ready i s) :
    (effectOf i s).tv = true := by
  cases i with
  | init | setup => rfl
  | expSalt => exact ready
  | expKey | sExpKey =>
    obtain ⟨-, -, htv⟩ := ready
    exact htv
  | encrypt | digest | bcrypt | zeroize => simp [scheduleCommands] at hi

/-- R65: what a command makes of the engine does not depend on its own acceptance. -/
theorem effectOf_eng_accepted (i : Instr) (s : State) :
    (effectOf i (popped (accept i (popped s)))).eng = (effectOf i s).eng := by
  cases i <;> simp [effectOf, bcryptEffect]

/-- An idle core out of reset, with a key length that R174 allows. -/
structure Schedulable (s : State) : Prop where
  pin : s.resetPin = false
  idle : s.busy = false
  keylen : 1 ≤ s.keylen.toNat ∧ s.keylen.toNat ≤ 72

/-- The core, `s` before some commands of the key schedule, is `t` after them: they have left the result `e`, and `rest`
still waits. -/
structure CommandsDone (s t : State) (rest : List Event) (e : Engine) : Prop where
  operands : sameOperands s t
  idle : t.busy = false
  tv : t.tv = true
  events : t.events = rest
  result : sameResult t.eng e

theorem CommandsDone.trans {s t u : State} {rest rest' : List Event} {e e' e'' : Engine}
    (hst : CommandsDone s t rest e) (htu : CommandsDone t u rest' e') (h : sameResult e' e'') :
    CommandsDone s u rest' e'' :=
  ⟨hst.operands.trans htu.operands, htu.idle, htu.tv, htu.events, htu.result.trans h⟩

theorem CommandsDone.schedulable {s t : State} {rest : List Event} {e : Engine} (h : CommandsDone s t rest e)
    (hs : Schedulable s) : Schedulable t :=
  ⟨h.operands.resetPin.trans hs.pin, h.idle, h.operands.keylen ▸ hs.keylen⟩

/-- R104, R126 to R129: a command of the key schedule leaves the result of its completion pseudocode. -/
theorem run_scheduleCommand {s : State} {i : Instr} {rest : List Event} (hi : i ∈ scheduleCommands)
    (hs : Schedulable s) (ready : Spec.ready i s) (ev : s.events = Spec.issued i ++ rest) :
    ∃ t, run 2 s = .next t ∧ CommandsDone s t rest (effectOf i s).eng := by
  have htv : (effectOf i s).tv = true := effectOf_tv_of_ready hi ready
  refine ⟨_, run_issued hs.pin hs.idle ready ev, ?operands, rfl, ?tv, by simp [ev, Spec.issued], ?result⟩
  case operands =>
    have haccept := (sameOperands_popped s).trans (sameOperands_accept i (popped s))
    have hdone := (sameOperands_effectOf hi (popped (accept i (popped s)))).trans (sameOperands_complete _)
    exact haccept.trans ((sameOperands_popped _).trans hdone)
  case tv =>
    rw [effectOf_tv] at htv
    simpa [effectOf_tv] using htv
  case result => simp [sameResult, effectOf_eng_accepted]

/-- R126, R127: the commands of one iteration of the schedule loop. -/
def iterationCommands : List Event := Spec.issued .expKey ++ Spec.issued .expSalt

/-- R125: `n` iterations of the schedule loop over the operands of `s`. -/
def scheduleLoop (s : State) (n : Nat) (e : Engine) : Engine :=
  Nat.fold n (fun _ _ x => eksIteration (saltByte s.salt) (keyByte s.key) s.keylen.toNat x) e

theorem scheduleLoop_congr {s t : State} (h : sameOperands s t) (n : Nat) (e : Engine) :
    scheduleLoop t n e = scheduleLoop s n e := by
  rw [scheduleLoop, h.salt, h.key, h.keylen, scheduleLoop]

theorem scheduleLoop_sameResult {s : State} (hs : Schedulable s) (n : Nat) {x y : Engine} (h : sameResult x y) :
    sameResult (scheduleLoop s n x) (scheduleLoop s n y) :=
  fold_related sameResult h fun _ _ _ _ => eksIteration_sameResult hs.keylen

/-- R125: the INIT tables after one salted expansion over the operands of `s`, where the schedule loop starts. -/
def scheduleStart (s : State) : Engine :=
  saltedExpand (saltByte s.salt) (keyByte s.key) s.keylen.toNat { s.eng with p := piP, s := piS }

/-- R125, R129: SETUP's completion is the schedule loop from its start. -/
theorem effectOf_setup_eng (s : State) :
    (effectOf .setup s).eng = scheduleLoop s (2 ^ s.cost.toNat) (scheduleStart s) := by
  rw [effectOf, setupEffect_eng]
  unfold eksSetup
  rfl

/-- R125: EXPKEY and EXPSALT make one iteration of the schedule loop. -/
theorem run_iteration {s : State} {rest : List Event} (hs : Schedulable s) (htv : s.tv = true)
    (ev : s.events = iterationCommands ++ rest) :
    ∃ t, run 4 s = .next t ∧
      CommandsDone s t rest (eksIteration (saltByte s.salt) (keyByte s.key) s.keylen.toNat s.eng) := by
  obtain ⟨t, hrunKey, hkey⟩ := run_scheduleCommand (i := .expKey) (rest := Spec.issued .expSalt ++ rest) (by decide)
    hs ⟨hs.keylen.1, hs.keylen.2, htv⟩ (by rw [ev, iterationCommands, List.append_assoc])
  obtain ⟨u, hrunSalt, hsalt⟩ := run_scheduleCommand (i := .expSalt) (by decide) (hkey.schedulable hs)
    hkey.tv hkey.events
  refine ⟨u, (run_add 2 hrunKey).trans hrunSalt, hkey.trans hsalt ?_⟩
  show sameResult (expand (saltByte t.salt) Config.saltLen t.eng) _
  rw [hkey.operands.salt]
  exact expand_sameResult (by decide) hkey.result

/-- R125: the schedule loop, by induction on the number of its iterations. -/
theorem run_iterations {s : State} {n : Nat} {rest : List Event} (hs : Schedulable s) (htv : s.tv = true)
    (ev : s.events = (List.replicate n iterationCommands).flatten ++ rest) :
    ∃ t, run (4 * n) s = .next t ∧ CommandsDone s t rest (scheduleLoop s n s.eng) := by
  induction n generalizing rest with
  | zero => exact ⟨s, rfl, rfl, hs.idle, htv, ev, .refl s.eng⟩
  | succ n ih =>
    obtain ⟨t, hrun, ht⟩ := ih (rest := iterationCommands ++ rest)
      (by rw [ev, List.replicate_succ', List.flatten_append, List.flatten_singleton, List.append_assoc])
    obtain ⟨u, hrunOne, hu⟩ := run_iteration (ht.schedulable hs) ht.tv ht.events
    refine ⟨u, (run_add 4 hrun).trans hrunOne, ht.trans hu ?_⟩
    rw [ht.operands.salt, ht.operands.key, ht.operands.keylen, scheduleLoop, Nat.fold_succ]
    exact eksIteration_sameResult hs.keylen ht.result

/-- R125, R129: INIT, SEXPKEY and `n` times EXPKEY and EXPSALT. -/
theorem run_setupSequence {s : State} {n : Nat} (hs : Schedulable s)
    (ev : s.events = Spec.issued .init ++ Spec.issued .sExpKey ++
      (List.replicate n iterationCommands).flatten) :
    ∃ t, run (4 + 4 * n) s = .next t ∧ CommandsDone s t [] (scheduleLoop s n (scheduleStart s)) := by
  obtain ⟨t, hrunInit, ht⟩ := run_scheduleCommand (i := .init) (by decide) hs trivial
    (by rw [ev, List.append_assoc])
  have hst := ht.schedulable hs
  obtain ⟨u, hrunSalted, hu⟩ := run_scheduleCommand (i := .sExpKey) (by decide) hst
    ⟨hst.keylen.1, hst.keylen.2, ht.tv⟩ ht.events
  have hsalted : CommandsDone s u (List.replicate n iterationCommands).flatten (scheduleStart s) := by
    refine ht.trans hu ?_
    show sameResult (saltedExpand (saltByte t.salt) (keyByte t.key) t.keylen.toNat t.eng) _
    rw [ht.operands.salt, ht.operands.key, ht.operands.keylen]
    exact saltedExpand_sameResult hs.keylen ht.result
  obtain ⟨v, hrunLoop, hv⟩ := run_iterations (rest := []) (hsalted.schedulable hs) hsalted.tv
    (by rw [hsalted.events, List.append_nil])
  refine ⟨v, (run_add _ ((run_add 2 hrunInit).trans hrunSalted)).trans hrunLoop, hsalted.trans hv ?_⟩
  rw [scheduleLoop_congr hsalted.operands]
  exact scheduleLoop_sameResult hs n hsalted.result

/-- Settles O43: both runs leave the result of R125, whose loop is that of the sequence. -/
theorem setupEqualsCommandSequence : Obligations.SetupEqualsCommandSequence := by
  intro s pin idle ready
  have hs (events : List Event) : Schedulable { s with events := events } := ⟨pin, idle, ready.2⟩
  obtain ⟨a, hrunSetup, ha⟩ := run_scheduleCommand (i := .setup) (rest := []) (by decide) (hs (Spec.issued .setup)) ready
    rfl
  obtain ⟨b, hrunSeq, hb⟩ := run_setupSequence (hs _) rfl
  have hsetup := ha.result
  rw [effectOf_setup_eng] at hsetup
  obtain ⟨hpEq, hsEq, hencs⟩ := hsetup.trans hb.result.symm
  refine ⟨a, b, hrunSetup, hrunSeq, hpEq, hsEq, hencs, ha.tv, hb.tv, hb.events, ?_⟩
  rw [hb.operands]
  exact ⟨rfl, rfl, rfl, rfl, rfl⟩

end Sys2Proof.Machine
end

-- ==== Proofs: the digest, and the commands DIGEST, BCRYPT and ZEROIZE ====
section
namespace Sys2Proof.Machine

/-! ### The digest, block by block -/

/-- R151: block `b` of the digest words. -/
def digestBlock (d : DigestRegs) (b : Fin 3) : Block := ⟨d[2 * b.val], d[2 * b.val + 1]⟩

theorem digestBlock_eq_ofNat (d : DigestRegs) (b : Fin 3) :
    digestBlock d b = ⟨d[Fin.ofNat 6 (2 * b.val)], d[Fin.ofNat 6 (2 * b.val + 1)]⟩ := by
  have hindex : 2 * b.val % 6 = 2 * b.val ∧ (2 * b.val + 1) % 6 = 2 * b.val + 1 := by omega
  simp [digestBlock, hindex]

/-- R151: an encryption of block `b` replaces that block and leaves the other two. -/
theorem digestBlock_digestStep (p : PArray) (s : SBoxes) (b b' : Fin 3) (cn : DigestRegs × Nat) :
    digestBlock (digestStep p s b cn).1 b' =
      if b' = b then bfEnc p s (digestBlock cn.1 b) else digestBlock cn.1 b' := by
  split
  next heq => simp [digestBlock, digestStep, heq]
  next hne =>
    have hval : b.val ≠ b'.val := fun h => hne (Fin.ext h.symm)
    have hindex : 2 * b.val ≠ 2 * b'.val + 1 ∧ 2 * b.val + 1 ≠ 2 * b'.val := by omega
    simp [digestBlock, digestStep, Vector.getElem_set_ne, hval, hindex]

/-- R151: `n` encryptions of block `b` in a row. -/
theorem digestBlock_fold_digestStep (p : PArray) (s : SBoxes) (b b' : Fin 3) (n : Nat) (cn : DigestRegs × Nat) :
    digestBlock (Nat.fold n (fun _ _ x => digestStep p s b x) cn).1 b' =
      if b' = b then Spec.encIter p s n (digestBlock cn.1 b) else digestBlock cn.1 b' := by
  induction n generalizing b' with
  | zero => simp +contextual [Spec.encIter]
  | succ n ih =>
    rw [Nat.fold_succ, digestBlock_digestStep, ih, ih, if_pos rfl]
    split <;> rfl

/-- R151: the digest words once the blocks below `n` are done and the others still hold the magic words. -/
def digestedUpTo (p : PArray) (s : SBoxes) (n : Nat) (d : DigestRegs) : Prop :=
  ∀ b : Fin 3, digestBlock d b = Spec.encIter p s (if b.val < n then Config.digestIters else 0) (digestBlock magic b)

/-- R151: the turn of block `b` does that block and no other. -/
theorem digestedUpTo_succ {p : PArray} {s : SBoxes} {b : Fin 3} {cn : DigestRegs × Nat}
    (h : digestedUpTo p s b.val cn.1) :
    digestedUpTo p s (b.val + 1) (Nat.fold Config.digestIters (fun _ _ x => digestStep p s b x) cn).1 := by
  intro b'
  rw [digestBlock_fold_digestStep]
  split
  next heq => simp [h b, heq, Spec.encIter]
  next hne =>
    have hlt : b'.val < b.val + 1 ↔ b'.val < b.val := by omega
    simp only [h b', hlt]

theorem digestedUpTo_bcDigest (p : PArray) (s : SBoxes) : digestedUpTo p s 3 (bcDigest p s) := by
  have hstart : digestedUpTo p s 0 magic := fun _ => rfl
  unfold bcDigest bcDigestCounted
  exact fold_induct (fun n (cn : DigestRegs × Nat) => digestedUpTo p s n cn.1) hstart fun i h _ hcn =>
    digestedUpTo_succ (b := ⟨i, h⟩) hcn

/-- R151, R207: three blocks of 64 encryptions. -/
theorem bcDigestCounted_snd (p : PArray) (s : SBoxes) : (bcDigestCounted p s).2 = 192 := by
  unfold bcDigestCounted
  exact fold_count Prod.snd 64 fun _ _ _ => fold_count Prod.snd 1 fun _ _ _ => rfl

/-- Settles O41: the two words of a block are its halves, and after the loop all three blocks are done. -/
theorem digestBlocksIndependent : Obligations.DigestBlocksIndependent := by
  refine fun p s => ⟨fun b => ?_, bcDigestCounted_snd p s⟩
  have hblock := digestedUpTo_bcDigest p s b
  rw [if_pos b.isLt, digestBlock_eq_ofNat, digestBlock_eq_ofNat] at hblock
  exact ⟨congrArg Block.l hblock, congrArg Block.r hblock⟩

/-! ### Completions -/

/-- Settles O27: `exec_completes` with DIGEST's effect. -/
theorem digestCompletes : Obligations.DigestCompletes := fun _ busy cur => exec_completes busy cur

/-- Settles O28: `exec_completes` with BCRYPT's effect. -/
theorem bcryptCompletes : Obligations.BcryptCompletes := fun _ busy cur => exec_completes busy cur

/-- Settles O29: `exec_completes` with ZEROIZE's effect, whose tables are zero at every index. -/
theorem zeroizeCompletes : Obligations.ZeroizeCompletes := by
  intro s busy cur
  obtain ⟨c, e, hp, hs, hexec⟩ := exec_completes busy cur
  refine ⟨c, e, fun i => ?p, fun k i => ?s, hexec⟩
  case p => simp [hp, effectOf]
  case s => simp [hs, effectOf]

/-! ### BCRYPT as SETUP and then DIGEST -/

/-- R153: BCRYPT's completion pseudocode is SETUP's and then DIGEST's. -/
theorem bcryptEffect_eq (s : State) : bcryptEffect s = digestEffect (setupEffect s) := rfl

/-- Settles O44: both runs apply SETUP's effect and then DIGEST's, and what lies between the two touches no operand and
no table. -/
theorem bcryptEqualsSetupThenDigest : Obligations.BcryptEqualsSetupThenDigest := by
  intro s pin idle ready
  have hbcrypt := run_issued (s := { s with events := Spec.issued .bcrypt }) (rest := []) pin idle ready rfl
  have hsetup := run_issued (i := .setup) (s := { s with events := Spec.issued .setup ++ Spec.issued .digest })
    pin idle ready rfl
  refine ⟨_, _, hbcrypt, (run_add 2 hsetup).trans (run_issued (i := .digest) (rest := []) pin rfl rfl rfl), ?_⟩
  simp [effectOf, bcryptEffect_eq]

/-! ### What BCRYPT depends on -/

/-- R125, R129: the tables of SETUP by what it reads: COST, KEYLEN, SALT and the key bytes below KEYLEN. -/
theorem setupEffect_sameTables {s s' : State} (hcost : s.cost = s'.cost) (hkeylen : s.keylen = s'.keylen)
    (hsalt : s.salt = s'.salt) (hlen : 1 ≤ s.keylen.toNat ∧ s.keylen.toNat ≤ 72)
    (hkey : ∀ n, n < s.keylen.toNat → keyByte s.key n = keyByte s'.key n) :
    sameTables (setupEffect s).eng (setupEffect s').eng := by
  have hin : SameInputs (saltByte s.salt) (saltByte s'.salt) (keyByte s.key) (keyByte s'.key) s.keylen.toNat
      s'.keylen.toNat := by
    rw [← hkeylen, ← hsalt]
    exact ⟨hlen, hlen, fun i => cyclicWord_congr_bytes hlen.1 hkey _, fun _ _ => rfl⟩
  rw [setupEffect_eng, setupEffect_eng, ← hcost]
  exact eksSetup_sameTables hin _ _ _

/-- Settles O45: the schedule cannot tell the two inputs apart, so it leaves the same tables, and the digest is
theirs. -/
theorem bcryptDeterminedByInputs : Obligations.BcryptDeterminedByInputs := by
  intro s s' t t' busy cur busy' cur' hcost hkeylen hsalt hmin hmax hkey ht ht'
  obtain ⟨hp, hs, -⟩ := setupEffect_sameTables hcost hkeylen hsalt ⟨hmin, hmax⟩ hkey
  rw [exec_running busy cur] at ht
  rw [exec_running busy' cur'] at ht'
  cases ht
  cases ht'
  simp [effectOf, bcryptEffect_digest, bcryptEffect_p, bcryptEffect_s, -setupEffect_eng, hp, hs]

/-! ### The magic words -/

/-- Settles O40: the 24 bytes and the six words are compared by evaluation. -/
theorem magicWords : Obligations.MagicWords := by
  unfold Obligations.MagicWords
  decide

end Sys2Proof.Machine
end

-- ==== Proofs: the meaning a step runs, and the CTRL write of R170 ====
section
namespace Sys2Proof.Machine

/-! ### What a command does while the core is idle -/

theorem exec_accepted {i : Instr} {s : State} (idle : s.busy = false) (passes : commandCheck i s = .none) :
    exec i s = .next (accept i s) :=
  (exec_eq_runCommand i s).trans (runCommand_accepted idle passes)

theorem exec_rejected {i : Instr} {s : State} (idle : s.busy = false) (fails : commandCheck i s ≠ .none) :
    exec i s = .next (reject (commandCheck i s) (encode i) s) :=
  (exec_eq_runCommand i s).trans (runCommand_rejected idle fails)

/-- Settles O15: operands that are ready pass every check, and `accept` is the acceptance the statement writes out. -/
theorem readyCommandAccepted : Obligations.ReadyCommandAccepted :=
  fun i s idle ready => exec_accepted idle ((commandCheck_eq_none i s).mpr ready)

/-! ### The steps that run a command's meaning -/

/-- R170: a CTRL write of a command's word runs the command. -/
theorem step_ctrlWrite_command {s : State} {off : Offset} {v : Word} {i : Instr} {rest : List Event}
    (pin : s.resetPin = false) (idle : s.busy = false) (reg : regAt off = .ctrl) (good : decode v = .ok i)
    (ev : s.events = .write off v :: rest) : step s = exec i (popped s) := by
  rw [popped_of_cons ev]
  simp [step, fetch, ev, onEvent, hostWrite, pin, reg, ctrlWrite, idle, good]

/-- R172: a CTRL write of any other word is rejected before a command is reached. -/
theorem step_ctrlWrite_illegal {s : State} {off : Offset} {v : Word} {f : WordFault} {rest : List Event}
    (pin : s.resetPin = false) (idle : s.busy = false) (reg : regAt off = .ctrl) (bad : decode v = .error f)
    (ev : s.events = .write off v :: rest) : step s = .next (reject .illegal v (popped s)) := by
  rw [popped_of_cons ev]
  simp [step, fetch, ev, onEvent, hostWrite, pin, reg, ctrlWrite, idle, bad]

/-- R179: the engine's turn runs the command in progress. -/
theorem step_engine_command {s : State} {i : Instr} (busy : s.busy = true) (cur : s.cur = some i)
    (turn : engineMoves s) : step s = exec i (popped s) := by
  have hturn : engineTurn (popped s) = .run i (popped s) := engineTurn_running (s := popped s) busy cur
  rcases turn with ev | ⟨rest, ev⟩
  · rw [popped_of_nil ev] at hturn ⊢
    simp [step, fetch, ev, hturn]
  · rw [popped_of_cons ev] at hturn ⊢
    simp [step, fetch, ev, onEvent, hturn]

/-- Settles O47: `step_ctrlWrite_command`, with the event list written out. -/
theorem commandWriteRunsMeaning : Obligations.CommandWriteRunsMeaning := by
  intro s off v i rest pin idle reg good ev
  rw [step_ctrlWrite_command pin idle reg good ev, popped_of_cons ev]

/-- Settles O48: the two ways in which the engine moves. -/
theorem engineTurnRunsMeaning : Obligations.EngineTurnRunsMeaning := by
  refine fun s i busy cur => ⟨fun ev => ?none, fun rest ev => ?first⟩
  case none => rw [step_engine_command busy cur (.inl ev), popped_of_nil ev]
  case first => rw [step_engine_command busy cur (.inr ⟨rest, ev⟩), popped_of_cons ev]

/-! ### Illegal words -/

/-- R82, R83: a word with a reserved bit or a reserved opcode does not decode. -/
theorem decode_error_of_reserved {v : Word} (h : rsvField v ≠ 0 ∨ opField v = 0 ∨ 9 < (opField v).toNat) :
    ∃ f, decode v = .error f := by
  by_cases hrsv : rsvField v = 0
  · exact ⟨_, decode_eq_reservedOpcode_iff.mpr ⟨hrsv, h.resolve_left (not_not.mpr hrsv)⟩⟩
  · exact ⟨_, decode_eq_reservedBits_iff.mpr hrsv⟩

/-- Settles O16: such a word does not decode, and `reject` is the rejection the statement writes out. -/
theorem illegalWordRejected : Obligations.IllegalWordRejected := by
  intro s off v rest pin idle reg ev hword
  obtain ⟨f, bad⟩ := decode_error_of_reserved hword
  rw [step_ctrlWrite_illegal pin idle reg bad ev, popped_of_cons ev]
  rfl

/-! ### The branches of R170's pseudocode -/

theorem spec_ctrlWrite_busy {s : State} (busy : s.busy = true) (v : Word) :
    Spec.ctrlWrite v s = dropWrite .ctrl v s := if_pos busy

theorem spec_ctrlWrite_rejected {s : State} {v : Word} (idle : s.busy = false) (fails : Spec.check v s ≠ .none) :
    Spec.ctrlWrite v s = reject (Spec.check v s) v s := by
  rw [Spec.ctrlWrite, if_neg (by simp [idle]), if_pos fails]
  rfl

theorem spec_ctrlWrite_accepted {s : State} {i : Instr} (idle : s.busy = false)
    (passes : Spec.check (encode i) s = .none) : Spec.ctrlWrite (encode i) s = accept i s := by
  have hop : (encode i).extractLsb' 0 4 = opcode i := opField_encode i
  simp [Spec.ctrlWrite, idle, passes, hop, accept, decodeOp_eq_some]

/-- R170, R171: the pseudocode at an idle core, on a command's word, is the command's meaning. -/
theorem exec_eq_spec_ctrlWrite {s : State} (idle : s.busy = false) (i : Instr) :
    exec i s = .next (Spec.ctrlWrite (encode i) s) := by
  have hcheck := check_encode i s
  by_cases passes : commandCheck i s = .none
  · rw [exec_accepted idle passes, spec_ctrlWrite_accepted idle (hcheck.trans passes)]
  · rw [exec_rejected idle passes, spec_ctrlWrite_rejected idle (by rwa [hcheck]), hcheck]

/-- R170: the step of a CTRL write, whatever its word and whether a command runs. -/
theorem step_ctrlWrite {s : State} {off : Offset} {v : Word} {rest : List Event} (pin : s.resetPin = false)
    (reg : regAt off = .ctrl) (ev : s.events = .write off v :: rest) :
    step s = .next (Spec.ctrlWrite v (popped s)) := by
  cases hbusy : s.busy with
  | true => rw [step_ctrlWrite_busy pin hbusy reg ev, spec_ctrlWrite_busy (s := popped s) hbusy]
  | false =>
    cases hdecode : decode v with
    | ok i =>
      obtain rfl := encode_of_decode hdecode
      rw [step_ctrlWrite_command pin hbusy reg hdecode ev, exec_eq_spec_ctrlWrite (s := popped s) hbusy]
    | error f =>
      have hcheck : Spec.check v (popped s) = .illegal := check_of_decode_error hdecode _
      rw [step_ctrlWrite_illegal pin hbusy reg hdecode ev,
        spec_ctrlWrite_rejected (s := popped s) hbusy (by simp [hcheck]), hcheck]

/-- R171: a word that passes `CHECK` is that of a command. -/
theorem command_of_check_eq_none {v : Word} {s : State} (h : Spec.check v s = .none) : ∃ i, v = encode i := by
  cases hdecode : decode v with
  | ok i => exact ⟨i, encode_of_decode hdecode⟩
  | error f => simp [check_of_decode_error hdecode] at h

/-- Settles O14: the step is the pseudocode in each of its branches, and only command words pass `CHECK`. -/
theorem ctrlWriteFollowsPseudocode : Obligations.CtrlWriteFollowsPseudocode := by
  intro s off v rest pin reg ev
  refine ⟨?step, fun _ passes => ?command⟩
  case step => rw [step_ctrlWrite pin reg ev, popped_of_cons ev]
  case command =>
    obtain ⟨i, rfl⟩ := command_of_check_eq_none passes
    exact ⟨i, decodeOp_eq_some.mpr (opField_encode i), rfl⟩

end Sys2Proof.Machine
end

-- ==== Proofs: which commands raise which error ====
section
namespace Sys2Proof.Machine

/-! ### The code each check raises -/

/-- A check that raises one code or none. -/
theorem ite_err_eq_iff {p : Prop} [Decidable p] {c e : Err} (he : e ≠ .none) :
    (if p then c else .none) = e ↔ e = c ∧ p := by
  by_cases hp : p
  · simp [hp, eq_comm]
  · simp [hp, he.symm]

/-- R173: the cost check raises E_COST or nothing. -/
theorem costCheck_eq_iff {e : Err} (he : e ≠ .none) (s : State) :
    costCheck s = e ↔ e = .cost ∧ s.cost.toNat < 4 := ite_err_eq_iff he

/-- R174: the key-length check raises E_KEYLEN or nothing. -/
theorem keylenCheck_eq_iff {e : Err} (he : e ≠ .none) (s : State) :
    keylenCheck s = e ↔ e = .keylen ∧ (s.keylen.toNat = 0 ∨ 72 < s.keylen.toNat) := ite_err_eq_iff he

/-- R175: the tables check raises E_NOTABLES or nothing. -/
theorem tablesCheck_eq_iff {e : Err} (he : e ≠ .none) (s : State) :
    tablesCheck s = e ↔ e = .noTables ∧ s.tv = false := by
  rw [tablesCheck_eq, ite_err_eq_iff he]

/-- R171: a code comes from the first check, or from the second where the first passes. -/
theorem firstErr_eq_iff {e : Err} (he : e ≠ .none) (a b : Err) :
    firstErr a b = e ↔ a = e ∨ (a = .none ∧ b = e) := by
  by_cases ha : a = .none
  · simp [firstErr, ha, he.symm]
  · simp [firstErr, ha]

/-- R171, R173 to R175: the commands that raise each code, and the operands or the mode bit for which they do. -/
theorem commandCheck_eq_iff {e : Err} (he : e ≠ .none) (i : Instr) (s : State) :
    commandCheck i s = e ↔
      (e = .cost ∧ (i = .setup ∨ i = .bcrypt) ∧ s.cost.toNat < 4) ∨
      (e = .keylen ∧ ((i = .expKey ∨ i = .sExpKey) ∨ ((i = .setup ∨ i = .bcrypt) ∧ 4 ≤ s.cost.toNat)) ∧
        (s.keylen.toNat = 0 ∨ 72 < s.keylen.toNat)) ∨
      (e = .noTables ∧ s.tv = false ∧
        ((i = .encrypt ∨ i = .expSalt ∨ i = .digest) ∨
          ((i = .expKey ∨ i = .sExpKey) ∧ 1 ≤ s.keylen.toNat ∧ s.keylen.toNat ≤ 72))) := by
  cases i with
  | init | zeroize => simp [commandCheck, he.symm]
  | encrypt | expSalt | digest => simp [commandCheck, tablesCheck_eq_iff he]
  | expKey | sExpKey =>
    simp [commandCheck, firstErr_eq_iff he, keylenCheck_eq_iff he, keylenCheck_eq_none, tablesCheck_eq_iff he,
      and_comm, and_assoc, and_left_comm]
  | setup | bcrypt =>
    simp [commandCheck, firstErr_eq_iff he, costCheck_eq_iff he, costCheck_eq_none, keylenCheck_eq_iff he,
      and_left_comm]

/-! ### Rejection with a code -/

/-- R170: an idle core rejects a command with a code exactly when the command's checks raise it; `reject` is
the rejection written out. -/
theorem exec_rejects_iff {i : Instr} {s : State} {e : Err} (idle : s.busy = false) (he : e ≠ .none) :
    exec i s = .next { s with err := e, done := true, lastOp := opcode i,
                              history := .rejected e (encode i) :: s.history } ↔ commandCheck i s = e := by
  rw [← opField_encode i]
  change exec i s = .next (reject e (encode i) s) ↔ _
  constructor
  · intro h
    by_cases passes : commandCheck i s = .none
    · rw [exec_accepted idle passes, Host.Outcome.next.injEq] at h
      exact absurd (congrArg State.err h).symm he
    · rw [exec_rejected idle passes, Host.Outcome.next.injEq] at h
      exact congrArg State.err h
  · rintro rfl
    exact exec_rejected idle he

/-- Settles O17: a rejection with a code is a check that raises it, and `commandCheck_eq_iff` says which raise
E_COST. -/
theorem costErrorExactly : Obligations.CostErrorExactly := by
  intro i s idle
  have hcost : s.cost.toNat ∈ [0, 1, 2, 3] ↔ s.cost.toNat < 4 := by
    simp only [List.mem_cons, List.not_mem_nil, or_false]
    omega
  rw [exec_rejects_iff idle (by simp), commandCheck_eq_iff (by simp), hcost]
  simp

/-- Settles O18: `commandCheck_eq_iff` at E_KEYLEN; only the form of the length's bounds differs. -/
theorem keyLengthErrorExactly : Obligations.KeyLengthErrorExactly := by
  intro i s idle
  have hkeylen : (s.keylen = 0 ∨ 73 ≤ s.keylen.toNat) ↔ (s.keylen.toNat = 0 ∨ 72 < s.keylen.toNat) :=
    or_congr_left BitVec.toNat_eq
  rw [exec_rejects_iff idle (by simp), commandCheck_eq_iff (by simp), hkeylen]
  simp

/-- Settles O19: `commandCheck_eq_iff` at E_NOTABLES. -/
theorem noTablesErrorExactly : Obligations.NoTablesErrorExactly := by
  intro i s idle
  rw [exec_rejects_iff idle (by simp), commandCheck_eq_iff (by simp)]
  simp

end Sys2Proof.Machine
end

-- ==== Proofs: writes dropped while BUSY, and the history ====
section
namespace Sys2Proof.Machine

/-! ### Writes while a command runs -/

/-- R177: while BUSY the write of an input register is dropped. -/
theorem writeReg_of_isInput_busy {r : Reg} {s : State} (hin : Spec.isInput r = true) (busy : s.busy = true) (v : Word) :
    writeReg r v s = dropWrite r v s := by
  cases r with
  | cost | keylen | salt | key | blkL | blkR => exact if_pos busy
  | ctrl | status | digest | p | s | reserved => simp [Spec.isInput] at hin

/-- Settles O9: a write of a register other than CTRL is `writeReg`, which drops it at an input and
ignores it elsewhere. -/
theorem busyInputWriteDropped : Obligations.BusyInputWriteDropped := by
  intro s off v rest pin busy ev
  refine ⟨fun hin => ?input, fun hin reg => ?other⟩
  case input =>
    have reg : regAt off ≠ .ctrl := fun h => by simp [h, Spec.isInput] at hin
    rw [step_write pin reg ev, writeReg_of_isInput_busy (s := popped s) hin busy, popped_of_cons ev]
    rfl
  case other => rw [step_write pin reg ev, writeReg_of_not_isInput hin, popped_of_cons ev]

/-- Settles O10: the dropped write leaves the running command the same, so its completion differs in the
report alone. -/
theorem busyCommandLost : Obligations.BusyCommandLost := by
  intro s off v i rest pin busy cur reg ev
  have hlost := step_ctrlWrite_busy pin busy reg ev
  have hdone := step_engine_running (s := dropWrite .ctrl v (popped s)) (rest := rest) busy cur (by simp [ev])
  have hsame : sameCommand { s with events := rest } (popped (dropWrite .ctrl v (popped s))) := rfl
  refine ⟨_, _, exec_running busy cur, (run_succ 1 hlost).trans (run_succ 0 hdone), ?_⟩
  rw [hsame.after_effectOf i]
  simp [complete, ev]

/-! ### The history -/

/-- The history gains no entry, or one in front whose code is the ERR of `t`. -/
def historyGrows (s t : State) : Prop := t.history = s.history ∨ ∃ r, t.history = r :: s.history ∧ t.err = r.code

theorem historyGrows_writeReg (r : Reg) (v : Word) (s : State) : historyGrows s (writeReg r v s) := by
  rcases writeReg_cases r v s with h | ⟨-, h⟩ | ⟨-, h⟩ <;> rw [h]
  · exact .inl rfl
  · exact .inr ⟨.dropped r v, rfl, rfl⟩
  · exact .inl rfl

/-- The modelling note of spec/60_exceptions.md, for everything a step can do. -/
theorem Stepped.historyGrows {s t : State} (h : Stepped s t) : historyGrows s t := by
  cases h with
  | idle | held | accepted | reset | released => exact .inl rfl
  | completed i => exact .inl (effectOf_history i (popped s))
  | read off =>
    rw [hostRead_frame]
    exact .inl rfl
  | lost _ v => exact .inr ⟨.dropped .ctrl v, rfl, rfl⟩
  | illegal _ v => exact .inr ⟨.rejected .illegal v, rfl, rfl⟩
  | rejected _ _ i => exact .inr ⟨.rejected (commandCheck i s) (encode i), rfl, rfl⟩
  | written off v => exact historyGrows_writeReg (regAt off) v (popped s)

/-- Settles O60, by the inversion of `step`. -/
theorem historyNeverCleared : Obligations.HistoryNeverCleared := fun _ _ hstep => (step_stepped hstep).historyGrows

end Sys2Proof.Machine
end

-- ==== Proofs: the reset input ====
section
namespace Sys2Proof.Machine

/-! ### The state after reset -/

/-- Settles O51: the core is idle and out of reset, and shows no error. -/
theorem resetMeetsInvariant : Obligations.ResetMeetsInvariant := .of_idle rfl rfl rfl rfl

/-- Settles O53: the values stand in `State.reset`, those of a register file at every index. -/
theorem resetValues : Obligations.ResetValues := by
  refine ⟨rfl, rfl, rfl, rfl, rfl, ?status, rfl, rfl, fun j => ?key, fun j => ?salt, rfl, rfl, fun j => ?digest, rfl,
    rfl, rfl⟩
  case status => decide
  case key | salt | digest => simp [State.reset]

/-! ### The steps of the reset input -/

/-- R200, R201: the step that asserts the reset input, whatever runs. -/
theorem step_assertReset {s : State} {rest : List Event} (ev : s.events = .assertReset :: rest) :
    step s = .next (assertReset (popped s)) := by
  rw [popped_of_cons ev]
  simp [step, fetch, ev, onEvent]

/-- R200: the step that releases the reset input. -/
theorem step_releaseReset {s : State} {rest : List Event} (ev : s.events = .releaseReset :: rest) :
    step s = .next (releaseReset (popped s)) := by
  rw [popped_of_cons ev]
  simp [step, fetch, ev, onEvent]

/-- R202: a write while the reset input is asserted takes its event and does nothing else. -/
theorem step_write_held {s : State} {off : Offset} {v : Word} {rest : List Event} (pin : s.resetPin = true)
    (ev : s.events = .write off v :: rest) : step s = .next (popped s) := by
  rw [popped_of_cons ev]
  simp [step, fetch, ev, onEvent, hostWrite, pin]

/-- R202: a read while the reset input is asserted. -/
theorem readReg_held {s : State} (pin : s.resetPin = true) (r : Reg) : readReg r s = (0, s) := if_pos pin

/-- Settles O54: the engine, the counters and the number of free values are those that `assertReset` takes. -/
theorem resetOverridesEverything : Obligations.ResetOverridesEverything := by
  intro s rest ev
  refine ⟨Config.freeEngine s.draws, Config.freeCounters s.draws, s.draws + 1, ?_⟩
  rw [step_assertReset ev, popped_of_cons ev]
  rfl

/-- Settles O55: a read, a write and the release, by their steps. -/
theorem assertedResetIgnoresHost : Obligations.AssertedResetIgnoresHost := by
  refine fun s rest pin => ⟨fun off ev => ?read, fun off v ev => ?write, fun ev => ?release⟩
  case read => rw [step_read ev, hostRead, readReg_held (s := popped s) pin, popped_of_cons ev]
  case write => rw [step_write_held pin ev, popped_of_cons ev]
  case release =>
    rw [step_releaseReset ev, popped_of_cons ev]
    rfl

end Sys2Proof.Machine
end

-- ==== Proofs: the number of encryptions of each command ====
section
namespace Sys2Proof.Machine

/-- R207: a loop of `n` turns that make `c` encryptions each. The turn is a variable: with a routine in its place, the check
of this use of `fold_count` would evaluate the routine. -/
theorem fold_encs {g : Engine → Engine} {c : Nat} (turn : ∀ x, (g x).encs = x.encs + c) (n : Nat) (e : Engine) :
    (Nat.fold n (fun _ _ x => g x) e).encs = e.encs + n * c :=
  fold_count Engine.encs c fun _ _ x => turn x

/-- R125, R207: one iteration expands twice. -/
theorem eksIteration_encs (salt key : Nat → Byte) (len : Nat) (e : Engine) :
    (eksIteration salt key len e).encs = e.encs + 1042 := by
  rw [eksIteration, expand_encs, expand_encs]

/-- R125, R207: one salted expansion and `2 ^ cost` iterations. -/
theorem eksSetup_encs (cost : Nat) (salt key : Nat → Byte) (len : Nat) (e : Engine) :
    (eksSetup cost salt key len e).encs = e.encs + (521 + 1042 * 2 ^ cost) := by
  unfold eksSetup
  rw [fold_encs (eksIteration_encs salt key len), saltedExpand_encs]
  ring

/-- R207: the encryptions of each completion pseudocode. -/
theorem effectOf_encs (i : Instr) (s : State) :
    (effectOf i s).eng.encs = s.eng.encs + Spec.encryptions i s.cost.toNat := by
  cases i with
  | init | zeroize | encrypt => rfl
  | expKey | expSalt => simp [effectOf, expand_encs, Spec.encryptions]
  | sExpKey => simp [effectOf, saltedExpand_encs, Spec.encryptions]
  | setup => simp [effectOf, eksSetup_encs, Spec.encryptions]
  | digest => simp [effectOf, bcDigestCounted_snd, Spec.encryptions]
  | bcrypt =>
    simp only [effectOf, bcryptEffect, bcDigestCounted_snd, eksSetup_encs, Spec.encryptions]
    omega

/-- Settles O42: the completion adds the encryptions of the command's own pseudocode. -/
theorem encryptionCounts : Obligations.EncryptionCounts := by
  intro i s t busy cur hexec
  rw [exec_running busy cur] at hexec
  cases hexec
  rw [complete_eng]
  exact effectOf_encs i s

end Sys2Proof.Machine
end

-- ==== Proofs: the progress of the core ====
section
namespace Sys2Proof.Machine

/-- A command's meaning answers a next state. -/
theorem exec_answers (i : Instr) (s : State) : ∃ t, exec i s = .next t := by
  rw [exec_eq_runCommand]
  rcases runCommand_cases i (effectOf i) s with ⟨-, -, h⟩ | ⟨-, -, h⟩ | ⟨-, -, h⟩ | ⟨-, -, h⟩ <;> exact ⟨_, h⟩

/-- A step answers a next state. -/
theorem step_answers (s : State) : ∃ t, step s = .next t := by
  cases hfetch : fetch s with
  | run i s' =>
    rw [step, hfetch]
    exact exec_answers i s'
  | reach s' => exact ⟨s', by rw [step, hfetch]⟩

/-- A step takes the first waiting event and adds none. -/
theorem Stepped.events_eq {s t : State} (h : Stepped s t) : t.events = s.events.tail := by
  cases h with
  | completed i => exact effectOf_events i (popped s)
  | read off =>
    rw [hostRead_frame]
    rfl
  | written off v =>
    rcases writeReg_cases (regAt off) v (popped s) with h | ⟨-, h⟩ | ⟨-, h⟩ <;> (rw [h]; rfl)
  | idle | held | lost | illegal | rejected | accepted | reset | released => rfl

/-- R208: as many steps as events wait are over with them, by induction on their number. -/
theorem run_waiting_events {n : Nat} {s : State} (hinv : s.Inv) (hn : s.events.length = n) :
    ∃ t, run n s = .next t ∧ t.events = [] ∧ t.Inv := by
  induction n generalizing s with
  | zero => exact ⟨s, rfl, List.eq_nil_of_length_eq_zero hn, hinv⟩
  | succ n ih =>
    obtain ⟨u, hstep⟩ := step_answers s
    have hmove := step_stepped hstep
    obtain ⟨t, hrun, ht⟩ := ih (hmove.keeps_inv hinv) (by simp [hmove.events_eq, hn])
    exact ⟨t, (run_succ n hstep).trans hrun, ht⟩

/-- R34: a core that runs a command has it in CUR. -/
theorem State.Inv.cur_of_busy {s : State} (h : s.Inv) (hb : s.busy = true) : ∃ i, s.cur = some i := by
  obtain ⟨-, hcur, -⟩ := h
  exact Option.isSome_iff_exists.mp ((curMatchesBusy_iff.mp hcur).symm.trans hb)

/-- R179, R208: the engine's turn leaves no command in progress. -/
theorem step_engine_turn_idle {s : State} (hinv : s.Inv) (turn : engineMoves s) :
    ∃ t, step s = .next t ∧ t.busy = false := by
  cases busy : s.busy with
  | false => exact ⟨popped s, step_engine_idle busy turn, busy⟩
  | true =>
    obtain ⟨i, cur⟩ := hinv.cur_of_busy busy
    exact ⟨_, (step_engine_command busy cur turn).trans (exec_running (s := popped s) busy cur), rfl⟩

/-- Settles O59: the waiting events first, and then the engine's turn. -/
theorem commandsComplete : Obligations.CommandsComplete := by
  intro s hinv
  obtain ⟨u, hrun, hev, hu⟩ := run_waiting_events hinv rfl
  obtain ⟨t, hstep, idle⟩ := step_engine_turn_idle hu (.inl hev)
  have hmove := step_stepped hstep
  exact ⟨t, run_then_step hrun hstep, idle, by simp [hmove.events_eq, hev], hmove.keeps_inv hu⟩

end Sys2Proof.Machine
end

-- ==== Proofs: what no host can tell apart ====
section
namespace Sys2Proof.Machine

/-! ### Host-equivalent states -/

/-- The core with another engine and other sequencer counters. -/
def withEngine (e : Engine) (c : Counters) (s : State) : State := { s with eng := e, counters := c }

/-- Host-equivalent states differ in the engine and the counters, and in the tables only while TV = 0. -/
theorem hostEquiv_iff {s t : State} :
    hostEquiv s t ↔ ∃ e c, t = withEngine e c s ∧ (s.tv = true → e.p = s.eng.p ∧ e.s = s.eng.s) := by
  constructor
  · exact fun ⟨same, tables⟩ => ⟨t.eng, t.counters, same, tables⟩
  · rintro ⟨e, c, rfl, tables⟩
    exact ⟨rfl, tables⟩

theorem hostEquiv.refl (s : State) : hostEquiv s s := ⟨rfl, fun _ => ⟨rfl, rfl⟩⟩

section
variable {s t : State} (h : hostEquiv s t)
include h

theorem hostEquiv.busy_eq : t.busy = s.busy := by rw [h.1]

theorem hostEquiv.cur_eq : t.cur = s.cur := by rw [h.1]

theorem hostEquiv.resetPin_eq : t.resetPin = s.resetPin := by rw [h.1]

theorem hostEquiv.events_eq : t.events = s.events := by rw [h.1]

/-- An operation that neither reads nor writes the engine and the counters, and keeps TV, keeps states host-equivalent. -/
theorem hostEquiv.after_op {op : State → State} (comm : ∀ e c, op (withEngine e c s) = withEngine e c (op s))
    (eng : (op s).eng = s.eng) (tv : (op s).tv = s.tv) : hostEquiv (op s) (op t) := by
  obtain ⟨e, c, rfl, tables⟩ := hostEquiv_iff.mp h
  exact hostEquiv_iff.mpr ⟨e, c, comm e c, by rwa [eng, tv]⟩

theorem hostEquiv.after_popped : hostEquiv (popped s) (popped t) := h.after_op (fun _ _ => rfl) rfl rfl

theorem hostEquiv.after_releaseReset : hostEquiv (releaseReset s) (releaseReset t) :=
  h.after_op (fun _ _ => rfl) rfl rfl

/-- R200: a reset leaves nothing of the state before it but what waits, what was observed and the number of free values. -/
theorem hostEquiv.after_assertReset : hostEquiv (assertReset s) (assertReset t) := by
  have hsame : assertReset t = assertReset s := by rw [h.1]; rfl
  rw [hsame]
  exact .refl _

end

/-! ### Host accesses -/

/-- R56, R57: no write of a register reads or writes the tables. -/
theorem writeReg_withEngine (e : Engine) (c : Counters) (r : Reg) (v : Word) (s : State) :
    writeReg r v (withEngine e c s) = withEngine e c (writeReg r v s) := by
  cases r with
  | cost | keylen | salt | key | blkL | blkR =>
    cases busy : s.busy <;> simp [writeReg, inputWrite, withEngine, busy, dropWrite]
  | ctrl | status | digest | p | s | reserved => rfl

theorem writeReg_keeps_tables (r : Reg) (v : Word) (s : State) :
    (writeReg r v s).eng = s.eng ∧ (writeReg r v s).tv = s.tv := by
  rcases writeReg_cases r v s with h | ⟨-, h⟩ | ⟨-, h⟩ <;> (rw [h]; exact ⟨rfl, rfl⟩)

/-- R170, R171: no CTRL write reads or writes the tables; the checks look at TV. -/
theorem spec_ctrlWrite_withEngine (e : Engine) (c : Counters) (v : Word) (s : State) :
    Spec.ctrlWrite v (withEngine e c s) = withEngine e c (Spec.ctrlWrite v s) := by
  have hcheck : Spec.check v (withEngine e c s) = Spec.check v s := rfl
  have hbusy : (withEngine e c s).busy = s.busy := rfl
  unfold Spec.ctrlWrite
  rw [hcheck, hbusy]
  split_ifs <;> rfl

theorem spec_ctrlWrite_keeps_tables (v : Word) (s : State) :
    (Spec.ctrlWrite v s).eng = s.eng ∧ (Spec.ctrlWrite v s).tv = s.tv := by
  unfold Spec.ctrlWrite
  split_ifs <;> exact ⟨rfl, rfl⟩

/-- R210: the reply of a read. -/
def withReply (r : Reply) (s : State) : State := { s with reads := r :: s.reads }

theorem hostRead_eq (off : Offset) (s : State) :
    hostRead off s = withReply ⟨off, (readReg (regAt off) s).1⟩ (readReg (regAt off) s).2 := rfl

section
variable {s t : State} (h : hostEquiv s t)
include h

theorem hostEquiv.after_writeReg (r : Reg) (v : Word) : hostEquiv (writeReg r v s) (writeReg r v t) :=
  have ⟨eng, tv⟩ := writeReg_keeps_tables r v s
  h.after_op (fun e c => writeReg_withEngine e c r v s) eng tv

theorem hostEquiv.after_ctrlWrite (v : Word) : hostEquiv (Spec.ctrlWrite v s) (Spec.ctrlWrite v t) :=
  have ⟨eng, tv⟩ := spec_ctrlWrite_keeps_tables v s
  h.after_op (fun e c => spec_ctrlWrite_withEngine e c v s) eng tv

/-- R58: an idle core reads the same, since the tables read 0 while TV = 0. -/
theorem hostEquiv.idleValue_eq (r : Reg) : Spec.idleValue t r = Spec.idleValue s r := by
  obtain ⟨e, c, rfl, tables⟩ := hostEquiv_iff.mp h
  cases r with
  | p | s => cases tv : s.tv <;> simp_all [Spec.idleValue, withEngine]
  | ctrl | status | cost | keylen | salt | key | blkL | blkR | digest | reserved => rfl

/-- R54, R55, R58, R202: a read returns the same word in both states and leaves them host-equivalent. -/
theorem hostEquiv.after_readReg (r : Reg) :
    (readReg r t).1 = (readReg r s).1 ∧ hostEquiv (readReg r s).2 (readReg r t).2 := by
  have hpin := h.resetPin_eq
  have hbusy := h.busy_eq
  cases pin : s.resetPin with
  | true =>
    rw [readReg_held pin, readReg_held (hpin.trans pin)]
    exact ⟨rfl, h⟩
  | false =>
    by_cases exact : s.busy = false ∨ Spec.exactWhileBusy r = true
    · rw [readReg_exact pin exact, readReg_exact (hpin.trans pin) (hbusy ▸ exact)]
      exact ⟨h.idleValue_eq r, h⟩
    · obtain ⟨busy, inexact⟩ : s.busy = true ∧ Spec.exactWhileBusy r = false := by simpa using exact
      rw [readReg_unspecified pin busy inexact, readReg_unspecified (hpin.trans pin) (hbusy.trans busy) inexact]
      refine ⟨?_, h.after_op (op := fun x => (drawWord x).2) (fun _ _ => rfl) rfl rfl⟩
      rw [h.1]
      rfl

theorem hostEquiv.after_hostRead (off : Offset) : hostEquiv (hostRead off s) (hostRead off t) := by
  obtain ⟨hword, hstate⟩ := h.after_readReg (regAt off)
  rw [hostRead_eq, hostRead_eq, hword]
  exact hstate.after_op (fun _ _ => rfl) rfl rfl

/-! ### Completions -/

theorem hostEquiv.after_complete : hostEquiv (complete s) (complete t) := by
  obtain ⟨e, c, rfl, tables⟩ := hostEquiv_iff.mp h
  exact ⟨rfl, tables⟩

/-- R125, R175: a command whose checks pass leaves the same tables: those it reads are set, so they were the same. -/
theorem hostEquiv.tables_after_effectOf {i : Instr} (ready : Spec.ready i s) :
    (effectOf i t).eng.p = (effectOf i s).eng.p ∧ (effectOf i t).eng.s = (effectOf i s).eng.s := by
  obtain ⟨e, c, rfl, tables⟩ := hostEquiv_iff.mp h
  have hin (hlen : 1 ≤ s.keylen.toNat ∧ s.keylen.toNat ≤ 72) :
      SameInputs (saltByte s.salt) (saltByte s.salt) (keyByte s.key) (keyByte s.key) s.keylen.toNat s.keylen.toNat :=
    ⟨hlen, hlen, fun _ => rfl, fun _ _ => rfl⟩
  cases i with
  | init | zeroize => exact ⟨rfl, rfl⟩
  | encrypt | digest => exact tables ready
  | expKey =>
    obtain ⟨hmin, hmax, tv⟩ := ready
    obtain ⟨hp, hs⟩ := tables tv
    obtain ⟨hp', hs', -⟩ := expand_sameTables (buf := keyByte s.key) ⟨hmin, hmax⟩ ⟨hmin, hmax⟩ (fun _ => rfl) hp hs
    exact ⟨hp', hs'⟩
  | expSalt =>
    obtain ⟨hp, hs⟩ := tables ready
    obtain ⟨hp', hs', -⟩ := expand_sameTables (buf := saltByte s.salt) (len := Config.saltLen) (by decide) (by decide)
      (fun _ => rfl) hp hs
    exact ⟨hp', hs'⟩
  | sExpKey =>
    obtain ⟨hmin, hmax, tv⟩ := ready
    obtain ⟨hp, hs⟩ := tables tv
    obtain ⟨hp', hs', -⟩ := saltedExpand_sameTables (hin ⟨hmin, hmax⟩) hp hs
    exact ⟨hp', hs'⟩
  | setup | bcrypt =>
    obtain ⟨-, hlen⟩ := ready
    obtain ⟨hp, hs, -⟩ := eksSetup_sameTables (hin hlen) s.cost.toNat e s.eng
    exact ⟨hp, hs⟩

/-- R105: ENCRYPT makes BLK of tables that are the same. -/
theorem hostEquiv.blk_after_effectOf {i : Instr} (ready : Spec.ready i s) : (effectOf i t).blk = (effectOf i s).blk := by
  obtain ⟨hp, hs⟩ := h.tables_after_effectOf ready
  have hblk : t.blk = s.blk := by rw [h.1]
  cases i with
  | encrypt => exact (congr (congrArg₂ bfEnc hp hs) hblk :)
  | zeroize => rfl
  | init | expKey | expSalt | sExpKey | setup | digest | bcrypt => exact hblk

/-- R151 to R153: DIGEST and BCRYPT make DIGEST of the tables that they leave. -/
theorem hostEquiv.digest_after_effectOf {i : Instr} (ready : Spec.ready i s) :
    (effectOf i t).digest = (effectOf i s).digest := by
  obtain ⟨hp, hs⟩ := h.tables_after_effectOf ready
  have hdigest : t.digest = s.digest := by rw [h.1]
  cases i with
  | digest | bcrypt => exact congrArg₂ bcDigest hp hs
  | zeroize => rfl
  | init | encrypt | expKey | expSalt | sExpKey | setup => exact hdigest

/-- Beside the engine and the counters, BLK and DIGEST are all that could show the tables in what a command leaves. -/
theorem hostEquiv.effectOf_frame (i : Instr) :
    effectOf i t = { effectOf i s with eng := (effectOf i t).eng, counters := t.counters, blk := (effectOf i t).blk,
                                       digest := (effectOf i t).digest } := by
  obtain ⟨e, c, rfl, -⟩ := hostEquiv_iff.mp h
  cases i <;> rfl

/-- R23, R175: a command whose checks pass shows nothing of the tables that was hidden before. -/
theorem hostEquiv.after_effectOf {i : Instr} (ready : Spec.ready i s) : hostEquiv (effectOf i s) (effectOf i t) := by
  refine ⟨?_, fun _ => h.tables_after_effectOf ready⟩
  rw [h.effectOf_frame i, h.blk_after_effectOf ready, h.digest_after_effectOf ready]

end

/-! ### The step -/

/-- R170, R177: the command in progress passes its checks. -/
theorem State.Inv.ready_of_busy {s : State} (h : s.Inv) (hb : s.busy = true) :
    ∃ i, s.cur = some i ∧ Spec.ready i s := by
  obtain ⟨i, cur⟩ := h.cur_of_busy hb
  obtain ⟨-, -, haccepted, -⟩ := h
  obtain ⟨passes, -⟩ := acceptedCommand_iff.mp haccepted i cur
  exact ⟨i, cur, (commandCheck_eq_none i s).mp passes⟩

/-- The two states step to host-equivalent states. -/
def stepsEquiv (s t : State) : Prop := ∃ s' t', step s = .next s' ∧ step t = .next t' ∧ hostEquiv s' t'

section
variable {s t : State} (h : hostEquiv s t)
include h

theorem hostEquiv.steps_engine (hinv : s.Inv) (turn : engineMoves s) : stepsEquiv s t := by
  have turn' : engineMoves t := by rwa [engineMoves, h.events_eq]
  have hpop := h.after_popped
  cases busy : s.busy with
  | false => exact ⟨_, _, step_engine_idle busy turn, step_engine_idle (h.busy_eq.trans busy) turn', hpop⟩
  | true =>
    have busy' := h.busy_eq.trans busy
    obtain ⟨i, cur, ready⟩ := hinv.popped.ready_of_busy (s := popped s) busy
    have cur' : t.cur = some i := h.cur_eq.trans cur
    exact ⟨_, _, (step_engine_command busy cur turn).trans (exec_running (s := popped s) busy cur),
      (step_engine_command busy' cur' turn').trans (exec_running (s := popped t) busy' cur'),
      (hpop.after_effectOf ready).after_complete⟩

theorem hostEquiv.steps_write {off : Offset} {v : Word} {rest : List Event} (ev : s.events = .write off v :: rest) :
    stepsEquiv s t := by
  have ev' := h.events_eq.trans ev
  have hpop := h.after_popped
  cases pin : s.resetPin with
  | true => exact ⟨_, _, step_write_held pin ev, step_write_held (h.resetPin_eq.trans pin) ev', hpop⟩
  | false =>
    have pin' := h.resetPin_eq.trans pin
    by_cases reg : regAt off = .ctrl
    · exact ⟨_, _, step_ctrlWrite pin reg ev, step_ctrlWrite pin' reg ev', hpop.after_ctrlWrite v⟩
    · exact ⟨_, _, step_write pin reg ev, step_write pin' reg ev', hpop.after_writeReg _ v⟩

/-- Host-equivalent states take the same kind of step, to host-equivalent states. -/
theorem hostEquiv.steps (hinv : s.Inv) : stepsEquiv s t := by
  have hpop := h.after_popped
  cases ev : s.events with
  | nil => exact h.steps_engine hinv (.inl ev)
  | cons e rest =>
    have ev' := h.events_eq.trans ev
    cases e with
    | engine => exact h.steps_engine hinv (.inr ⟨rest, ev⟩)
    | write off v => exact h.steps_write ev
    | read off => exact ⟨_, _, step_read ev, step_read ev', hpop.after_hostRead off⟩
    | assertReset => exact ⟨_, _, step_assertReset ev, step_assertReset ev', hpop.after_assertReset⟩
    | releaseReset => exact ⟨_, _, step_releaseReset ev, step_releaseReset ev', hpop.after_releaseReset⟩

end

/-- Settles O52: the states the two steps lead to are those of `hostEquiv.steps`. -/
theorem unsetTablesInvisible : Obligations.UnsetTablesInvisible := by
  intro s t s' t' hinv h hs ht
  obtain ⟨a, b, ha, hb, hab⟩ := h.steps hinv
  obtain rfl : a = s' := by simpa [ha] using hs
  obtain rfl : b = t' := by simpa [hb] using ht
  exact hab

end Sys2Proof.Machine
end

-- ==== Proofs: no step faults or is refused ====
section
namespace Sys2Proof.Machine

/-- Settles O49: a step reaches a state, or runs a command's meaning, and each of the nine meanings is `runCommand`,
all of whose four branches are next states (`step_answers`, over `exec_answers` and `runCommand_cases`). -/
theorem everyStepAnswersNext : Obligations.EveryStepAnswersNext :=
  step_answers

end Sys2Proof.Machine
end
